-- ==== Sys2Proof/Word.lean ====
section
/-! DEFINITION. The widths of the block (00_scope.md R10, R13): a data item is 8 bits, a logical address 16 bits, the cycle
counter and every access counter 64 bits. -/

namespace Sys2Proof

/-- `u8` (R13): a data item, A, X, Y, SP and the flag byte P (R10). -/
abbrev Byte := BitVec 8

/-- `u16` (R13): a logical address and PC (R10). -/
abbrev Addr := BitVec 16

/-- `u64` (R13): the cycle counter and every access counter (R10). -/
abbrev Count := BitVec 64

end Sys2Proof
end

