-- ==== Sys2Proof/Config.lean ====
section
/-! DEFINITION. What construction fixes (00_scope.md R11, 10_state.md R48, 70_reset_and_hazards.md R360), the physical
arrays a backend is made of (R45, R46), and the free values: what the spec leaves to a `draw` (R17). -/

namespace Sys2Proof

/-- The CPU model tag (R2, R41). -/
inductive CpuModel
  | nmos6502
  | cmos65c02
  deriving DecidableEq, Repr, Inhabited

/-! ## Physical storage (R45, R46) -/

/-- The storage arrays of R45, each under its own name, the two MMU control registers included (`ctrl`, R86's
`Phys(CTRL, 0)` and `Phys(CTRL, 1)`); `lut` is indexed `8*k + r` as R86 indexes it. -/
inductive PhysArray
  | lin
  | low
  | ramb
  | romb
  | base
  | ind
  | sys
  | io
  | lut
  | ctrl
  deriving DecidableEq, Repr, Inhabited

/-- One physical byte (R19, R64): an array and an index in it. Access counters belong to physical bytes. -/
structure Phys where
  array : PhysArray
  index : Nat
  deriving DecidableEq, Repr, Inhabited

/-- One list of (index, value) pairs per storage array, each in the canonical form of `Memory.wf`: indices strictly
rising and no entry equal to zero, which is what an unlisted index reads as. -/
structure Arrays (w : Nat) where
  lin  : List (Nat × BitVec w) := []
  low  : List (Nat × BitVec w) := []
  ramb : List (Nat × BitVec w) := []
  romb : List (Nat × BitVec w) := []
  base : List (Nat × BitVec w) := []
  ind  : List (Nat × BitVec w) := []
  sys  : List (Nat × BitVec w) := []
  io   : List (Nat × BitVec w) := []
  lut  : List (Nat × BitVec w) := []
  ctrl : List (Nat × BitVec w) := []
  deriving DecidableEq, Repr, Inhabited

/-- Every storage byte and control byte of the selected backend (R45): lists of `Host.Cell`. -/
abbrev Memory := Arrays 8

/-- The access counters, arrays parallel to the storage arrays (R46). -/
abbrev Counters := Arrays 64

/-! ## Parameters (R11) -/

/-- `BACKEND` with its sizes and addresses (R11). -/
inductive Backend
  /-- `LINEAR_SIZE_CFG`. -/
  | linear (sizeCfg : Nat)
  /-- `NUM_RAM_BANKS`, `NUM_ROM_BANKS`. -/
  | bankSwitched (ramBanks romBanks : Nat)
  /-- `TS_SECTOR_BITS_CFG`, `TS_TRACK_ADDR`, `TS_SECTOR_ADDR`, `TS_WINDOW_PAGE`. -/
  | trackSector (sectorBitsCfg : Int) (trackAddr sectorAddr : Addr) (windowPage : Byte)
  /-- `MMU_SYSMEM_PAGES`. -/
  | mmu (sysmemPages : Nat)
  deriving DecidableEq, Repr, Inhabited

/-- The penalty classes of `CYCLE_TABLE` (R186). -/
inductive PenaltyClass
  | none
  | page
  | c02page
  | branch
  | bitbranch
  deriving DecidableEq, Repr, Inhabited

/-- One entry of `CYCLE_TABLE`: the base cycles on each model and the penalty class (R185). The `nmos` figure of an
opcode that exists on `CMOS65C02` only is never used. -/
structure CycleEntry where
  nmos    : Nat
  cmos    : Nat
  penalty : PenaltyClass
  deriving DecidableEq, Repr, Inhabited

/-- The parameters of R11. `cycleTable` holds the entries in which `CYCLE_TABLE` differs from the default of
`opcode_table.json`, so that every table can be written and the empty list is the default. `sinks` is the finite map
`SINKS`, each sink named by a number, since one sink may be registered at several addresses; `baseMemorySinks` names the
sinks that take `setBaseMemory` (R325). `initMem` is `INIT_MEM`, one u8 per byte. `REPORT_FORMAT` is outside the
block (R347). -/
structure Config where
  model                : CpuModel
  backend              : Backend
  sinks                : List (Addr × Nat)
  baseMemorySinks      : List Nat
  initA                : Byte
  initX                : Byte
  initY                : Byte
  initP                : Byte
  initMem              : Memory
  phpOrMask            : Byte
  c02DecimalExtraCycle : Bool
  cycleTable           : List (Byte × CycleEntry)
  deriving DecidableEq, Repr, Inhabited

/-- The construction that `State.reset` stands for (DESIGN CHOICE, log entry 1): the model with the larger opcode table,
a full linear memory, no sinks, every open initial value 0 and the suggested `PHP_OR_MASK`. Statements quantify over
every configuration. -/
def Config.atReset : Config :=
  { model                := .cmos65c02
    backend              := .linear 65536
    sinks                := []
    baseMemorySinks      := []
    initA                := 0
    initX                := 0
    initY                := 0
    initP                := 0
    initMem              := {}
    phpOrMask            := 0x30
    c02DecimalExtraCycle := true
    cycleTable           := [] }

/-! ## Free values (R17) -/

/-- One thing a sink does during its `write`: an access to the backend through its memory handle (R103), or, from the
script it runs, a byte handed on to another sink (R102, R326), whose own accesses stand in the same list. -/
inductive SinkAccess
  | load (a : Addr)
  | store (a : Addr) (v : Byte)
  | handOn (sink : Nat) (a : Addr) (v : Byte)
  deriving DecidableEq, Repr, Inhabited

/-- What a sink does during one `write` (R103, R104), in order, and whether it reports failure. -/
structure SinkEffect where
  accesses : List SinkAccess
  fails    : Bool
  deriving DecidableEq, Repr, Inhabited

/-- A free flag bit, one per draw (R221, R222: N, Z and V after a decimal ADC or SBC). -/
opaque Config.freeFlag : Nat → Bool

/-- A free u8, one per draw (R58: a register after a faulted run). -/
opaque Config.freeByte : Nat → Byte

/-- A free u16, one per draw (R58: PC after a faulted run). -/
opaque Config.freeAddr : Nat → Addr

/-- A free u64, one per draw (R58: CYCLES after a faulted run). -/
opaque Config.freeCount : Nat → Count

/-- What the sink called at this draw does (R103: "a draw over all memory states reachable by backend stores"). -/
opaque Config.sinkEffect : Nat → SinkEffect

end Sys2Proof
end

