-- ==== Sys2Proof/Machine/State.lean ====
section
/-! DEFINITION. Everything the spec gives the machine (10_state.md R30 to R58), as plain data, and the state after
construction and `init` (R56, R361). The fields `draws`, `sinkCalls`, `commands` and `replies` are the model's own: the
counter of free values, and the sink port and the host command port of 00_scope.md R9 as lists. -/

namespace Sys2Proof.Machine

/-- Engine status (R42). -/
inductive Status
  | idle
  | running
  | halted
  | faulted
  | closed
  deriving DecidableEq, Repr, Inhabited

/-- The `kind` of an out-of-range access (60_exceptions.md R312). -/
inductive AccessKind
  | load
  | store
  deriving DecidableEq, Repr, Inhabited

/-- The record FAULT of the fault that ended a run (R43; 60_exceptions.md R311 to R314). A fault is taken as a next state
(R310: the status becomes `Faulted`, this record is set), never as an end of the model. -/
inductive FaultRecord
  | illegalOpcode (op : Byte) (addr : Addr)
  | outOfRange (addr : Addr) (kind : AccessKind)
  | invalidBCD (a m : Byte)
  | sinkFailure (addr : Addr) (v : Byte)
  deriving DecidableEq, Repr, Inhabited

/-- Which construction parameter a `ConfigError` names (60_exceptions.md R316, R317). The spec says only "which parameter": that
the three values R84 ties together have one joint name is the model's (DESIGN CHOICE, log entry 20). -/
inductive ConfigParam
  | linearSize
  | ramBanks
  | romBanks
  | trackSectorAddresses
  | sysmemPages
  deriving DecidableEq, Repr, Inhabited

/-- Which argument a `ParamError` names (60_exceptions.md R317, R341). The spec says only "which argument": that a range whose
start lies above its end is named as a pair is the model's (DESIGN CHOICE, log entry 21). -/
inductive ParamName
  | fraction
  | addressRange
  deriving DecidableEq, Repr, Inhabited

/-- The errors of host commands (60_exceptions.md R316), with the information of R317. -/
inductive HostError
  | configError (p : ConfigParam)
  | programTooShort (length : Nat)
  | badRange (address : Addr) (length : Nat)
  | paramError (p : ParamName)
  /-- `OutOfRange` or `SinkFailure` met by a host command: the host error of the same cause as the fault. -/
  | met (f : FaultRecord)
  | noSnapshot
  | busy
  | closed
  deriving DecidableEq, Repr, Inhabited

/-- A call the wrapper makes on a sink (20_memory.md R102, R105; 60_exceptions.md R325), by the sink's number. -/
inductive SinkCall
  | setBaseMemory (sink : Nat)
  | write (sink : Nat) (addr : Addr) (v : Byte)
  | close (sink : Nat)
  deriving DecidableEq, Repr, Inhabited

/-- `algorithm` of the report (60_exceptions.md R340). -/
inductive CutoffAlgorithm
  | absolute
  | median
  deriving DecidableEq, Repr, Inhabited

/-- A fraction `p`: the 64 bits of an IEEE 754 binary64 value (60_exceptions.md R344). -/
abbrev Fraction := BitVec 64

/-- The host commands after construction (00_scope.md R4 (f)). -/
inductive HostCommand
  | init
  | loadProgram (bytes : List Byte)
  | run (startAddress : Addr)
  | numCycles
  | copyToMem (bytes : List Byte) (address : Addr)
  | copyFromMem (address : Addr) (length : Nat)
  | takeSnapshot
  | restoreSnapshot
  | getStatistics (address : Addr)
  | cutoffAbsolute (first last : Addr) (p : Fraction)
  | cutoffMedian (first last : Addr) (p : Fraction)
  | report (first last : Addr) (p : Fraction) (algorithm : CutoffAlgorithm) (labels : List (Addr × List String))
  | close
  deriving DecidableEq, Repr, Inhabited

/-- A line of the report (60_exceptions.md R347). -/
inductive ReportLine
  | label (text : String)
  | entry (hot : Bool) (addr : Addr) (byte : Byte) (adjustedCount : Count)
  deriving DecidableEq, Repr, Inhabited

/-- What a host command returns. `ok` is the success of a command that returns nothing else; `run` answers `ok` when the
run halts and `failure` when it faults (40_dispatch.md R160). -/
inductive HostReply
  | ok
  | failure (f : FaultRecord)
  | error (e : HostError)
  | loaded (address : Addr) (length : Nat)
  | cycles (n : Count)
  | bytes (data : List Byte)
  | statistics (n : Count)
  | cutoff (n : Count)
  | report (lines : List ReportLine) (ended : Option HostError)
  deriving DecidableEq, Repr, Inhabited

/-- The machine. -/
structure State where
  /-- The construction parameters, the model tag MODEL among them (R41, R48); nothing writes them. -/
  cfg       : Config
  /-- Accumulator (R31). -/
  a         : Byte
  /-- Index register X (R32). -/
  x         : Byte
  /-- Index register Y (R33). -/
  y         : Byte
  /-- Stack pointer, the next free byte of page 1 (R34). -/
  sp        : Byte
  /-- Flag byte (R35). -/
  p         : Byte
  /-- Program counter (R38). -/
  pc        : Addr
  /-- CYCLES (R40). -/
  cycles    : Count
  /-- Engine status (R42). -/
  status    : Status
  /-- FAULT (R43). -/
  fault     : Option FaultRecord
  /-- Every storage and control byte of the backend (R45). -/
  mem       : Memory
  /-- Every access counter (R46). -/
  counts    : Counters
  /-- SNAP (R47). -/
  snap      : Option Memory
  /-- The model's own: how many free values have been drawn (R17). -/
  draws     : Nat
  /-- The model's own: the calls made on the sink port so far, oldest first (R9 (3)). -/
  sinkCalls : List SinkCall
  /-- The model's own: the host's commands still to come, next first (R9 (1)). -/
  commands  : List HostCommand
  /-- The model's own: the results given to the host, oldest first (R9 (1)). -/
  replies   : List HostReply
  deriving DecidableEq, Repr, Inhabited

/-- Why a step answers no state at all. -/
inductive Fault
  /-- Raised by `step` alone, on a state whose configuration construction refuses (60_exceptions.md R316, 70_reset_and_hazards.md
  R360: "An invalid configuration fails construction with `ConfigError`"): there is no such block. Safe: no valid
  construction reaches such a state. Every execution fault of R310 is a next state instead. -/
  | configError (p : ConfigParam)
  deriving DecidableEq, Repr

/-- Why an instruction has no meaning. -/
inductive Refusal
  /-- Raised by `exec`'s arm of an instruction that has no meaning yet; no arm does so. Safe. -/
  | notModelled (mnemonic : String)
  deriving DecidableEq, Repr

/-- What a step answers. -/
abbrev StepResult := Host.Outcome State Fault Refusal

/-- The state after construction with `cfg` and `init` (R56, R360, R361): SP is 0xFF, A, X, Y, P and memory are the `INIT_*`
parameters, CYCLES and every counter 0, FAULT and SNAP empty, status `Idle`; `setBaseMemory` has been called for the
sinks that take it (60_exceptions.md R325). PC is a value nothing reads before `run` writes it (DESIGN CHOICE, log entry
2). That no state lies between construction and the first `init`, so that SP is 0xFF from construction on, is the model's
(DESIGN CHOICE, log entry 22). -/
def State.constructed (cfg : Config) : State :=
  { cfg       := cfg
    a         := cfg.initA
    x         := cfg.initX
    y         := cfg.initY
    sp        := 0xFF
    p         := cfg.initP
    pc        := 0
    cycles    := 0
    status    := .idle
    fault     := none
    mem       := cfg.initMem
    counts    := {}
    snap      := none
    draws     := 0
    sinkCalls := cfg.baseMemorySinks.map .setBaseMemory
    commands  := []
    replies   := [] }

/-- The machine right after construction and `init`, for the construction of log entry 1. -/
def State.reset : State := State.constructed Config.atReset

end Sys2Proof.Machine
end

