-- ==== Sys2Proof/Machine/Binary64.lean ====
section
/-! DEFINITION. The binary64 arithmetic of the cutoff index (60_exceptions.md R341, R344): a fraction in [0, 1] as a whole
number of units of 2^-1074, the spacing of the smallest binary64 values, so that every binary64 value in reach is exact
and rounding is on whole numbers. -/

namespace Sys2Proof.Machine

/-- 1.0 in units of 2^-1074. -/
def unitOne : Nat := 2 ^ 1074

/-- `p` is a real number with `0 <= p <= 1` (R341): not NaN, not negative but for -0.0, which equals 0, and not above
0x3FF0000000000000, which is 1.0 (non-negative binary64 values are ordered as their bits). -/
def validFraction (p : Fraction) : Bool :=
  decide (p.toNat ≤ 0x3FF0000000000000) || decide (p = 0x8000000000000000)

/-- The value of a valid fraction in units of 2^-1074. -/
def fractionUnits (p : Fraction) : Nat :=
  let expo := (p.extractLsb' 52 11).toNat
  let frac := (p.extractLsb' 0 52).toNat
  if expo = 0 then frac else (2 ^ 52 + frac) * 2 ^ (expo - 1)

/-- `fl` (R344) on a whole number of units: round to 53 significant bits, to nearest, ties to even. -/
def roundUnits (n : Nat) : Nat :=
  let len := Nat.log2 n + 1
  if len ≤ 53 then n
  else
    let ulp := 2 ^ (len - 53)
    let q := n / ulp
    let r := n % ulp
    if ulp < 2 * r ∨ (2 * r = ulp ∧ q % 2 = 1) then (q + 1) * ulp else q * ulp

/-- `Index(n, p)` (R344): `floor(fl(n * fl(1 - p)))`, an index that reaches `n` clamped to `n - 1`. -/
def cutoffIndex (n : Nat) (p : Fraction) : Nat :=
  let i := roundUnits (n * roundUnits (unitOne - fractionUnits p)) / unitOne
  if n ≤ i then n - 1 else i

end Sys2Proof.Machine
end

