-- ==== Sys2Proof/Syntax.lean ====
section
/-! DEFINITION. The instructions: one constructor for each of the 210 rows of spec/opcode_table.json (30_encoding.md R146,
R147), named by the mnemonic and, where a mnemonic has several rows, the addressing mode of the row (R141). Operands:
`v` an immediate, `z` a zero-page byte, `a` a 16-bit operand, `r` a relative offset byte, each as it stands in the
instruction. -/

namespace Sys2Proof

/-- The instruction set of `CMOS65C02`, of which that of `NMOS6502` is the part that `legalOpcode` admits (R146). -/
inductive Instr
  | ldaImm (v : Byte)
  | ldaZp (z : Byte)
  | ldaZpx (z : Byte)
  | ldaAbs (a : Addr)
  | ldaAbsx (a : Addr)
  | ldaAbsy (a : Addr)
  | ldaIndx (z : Byte)
  | ldaIndy (z : Byte)
  | ldaZpi (z : Byte)
  | ldxImm (v : Byte)
  | ldxZp (z : Byte)
  | ldxZpy (z : Byte)
  | ldxAbs (a : Addr)
  | ldxAbsy (a : Addr)
  | ldyImm (v : Byte)
  | ldyZp (z : Byte)
  | ldyZpx (z : Byte)
  | ldyAbs (a : Addr)
  | ldyAbsx (a : Addr)
  | staZp (z : Byte)
  | staZpx (z : Byte)
  | staAbs (a : Addr)
  | staAbsx (a : Addr)
  | staAbsy (a : Addr)
  | staIndx (z : Byte)
  | staIndy (z : Byte)
  | staZpi (z : Byte)
  | stxZp (z : Byte)
  | stxZpy (z : Byte)
  | stxAbs (a : Addr)
  | styZp (z : Byte)
  | styZpx (z : Byte)
  | styAbs (a : Addr)
  | stzZp (z : Byte)
  | stzZpx (z : Byte)
  | stzAbs (a : Addr)
  | stzAbsx (a : Addr)
  | tax
  | tay
  | txa
  | tya
  | tsx
  | txs
  | adcImm (v : Byte)
  | adcZp (z : Byte)
  | adcZpx (z : Byte)
  | adcAbs (a : Addr)
  | adcAbsx (a : Addr)
  | adcAbsy (a : Addr)
  | adcIndx (z : Byte)
  | adcIndy (z : Byte)
  | adcZpi (z : Byte)
  | sbcImm (v : Byte)
  | sbcZp (z : Byte)
  | sbcZpx (z : Byte)
  | sbcAbs (a : Addr)
  | sbcAbsx (a : Addr)
  | sbcAbsy (a : Addr)
  | sbcIndx (z : Byte)
  | sbcIndy (z : Byte)
  | sbcZpi (z : Byte)
  | cmpImm (v : Byte)
  | cmpZp (z : Byte)
  | cmpZpx (z : Byte)
  | cmpAbs (a : Addr)
  | cmpAbsx (a : Addr)
  | cmpAbsy (a : Addr)
  | cmpIndx (z : Byte)
  | cmpIndy (z : Byte)
  | cmpZpi (z : Byte)
  | cpxImm (v : Byte)
  | cpxZp (z : Byte)
  | cpxAbs (a : Addr)
  | cpyImm (v : Byte)
  | cpyZp (z : Byte)
  | cpyAbs (a : Addr)
  | incAcc
  | incZp (z : Byte)
  | incZpx (z : Byte)
  | incAbs (a : Addr)
  | incAbsx (a : Addr)
  | decAcc
  | decZp (z : Byte)
  | decZpx (z : Byte)
  | decAbs (a : Addr)
  | decAbsx (a : Addr)
  | inx
  | iny
  | dex
  | dey
  | andImm (v : Byte)
  | andZp (z : Byte)
  | andZpx (z : Byte)
  | andAbs (a : Addr)
  | andAbsx (a : Addr)
  | andAbsy (a : Addr)
  | andIndx (z : Byte)
  | andIndy (z : Byte)
  | andZpi (z : Byte)
  | oraImm (v : Byte)
  | oraZp (z : Byte)
  | oraZpx (z : Byte)
  | oraAbs (a : Addr)
  | oraAbsx (a : Addr)
  | oraAbsy (a : Addr)
  | oraIndx (z : Byte)
  | oraIndy (z : Byte)
  | oraZpi (z : Byte)
  | eorImm (v : Byte)
  | eorZp (z : Byte)
  | eorZpx (z : Byte)
  | eorAbs (a : Addr)
  | eorAbsx (a : Addr)
  | eorAbsy (a : Addr)
  | eorIndx (z : Byte)
  | eorIndy (z : Byte)
  | eorZpi (z : Byte)
  | bitImm (v : Byte)
  | bitZp (z : Byte)
  | bitZpx (z : Byte)
  | bitAbs (a : Addr)
  | bitAbsx (a : Addr)
  | aslAcc
  | aslZp (z : Byte)
  | aslZpx (z : Byte)
  | aslAbs (a : Addr)
  | aslAbsx (a : Addr)
  | lsrAcc
  | lsrZp (z : Byte)
  | lsrZpx (z : Byte)
  | lsrAbs (a : Addr)
  | lsrAbsx (a : Addr)
  | rolAcc
  | rolZp (z : Byte)
  | rolZpx (z : Byte)
  | rolAbs (a : Addr)
  | rolAbsx (a : Addr)
  | rorAcc
  | rorZp (z : Byte)
  | rorZpx (z : Byte)
  | rorAbs (a : Addr)
  | rorAbsx (a : Addr)
  | trbZp (z : Byte)
  | trbAbs (a : Addr)
  | tsbZp (z : Byte)
  | tsbAbs (a : Addr)
  | rmb0 (z : Byte)
  | rmb1 (z : Byte)
  | rmb2 (z : Byte)
  | rmb3 (z : Byte)
  | rmb4 (z : Byte)
  | rmb5 (z : Byte)
  | rmb6 (z : Byte)
  | rmb7 (z : Byte)
  | smb0 (z : Byte)
  | smb1 (z : Byte)
  | smb2 (z : Byte)
  | smb3 (z : Byte)
  | smb4 (z : Byte)
  | smb5 (z : Byte)
  | smb6 (z : Byte)
  | smb7 (z : Byte)
  | bpl (r : Byte)
  | bmi (r : Byte)
  | bvc (r : Byte)
  | bvs (r : Byte)
  | bcc (r : Byte)
  | bcs (r : Byte)
  | bne (r : Byte)
  | beq (r : Byte)
  | bra (r : Byte)
  | bbr0 (z r : Byte)
  | bbr1 (z r : Byte)
  | bbr2 (z r : Byte)
  | bbr3 (z r : Byte)
  | bbr4 (z r : Byte)
  | bbr5 (z r : Byte)
  | bbr6 (z r : Byte)
  | bbr7 (z r : Byte)
  | bbs0 (z r : Byte)
  | bbs1 (z r : Byte)
  | bbs2 (z r : Byte)
  | bbs3 (z r : Byte)
  | bbs4 (z r : Byte)
  | bbs5 (z r : Byte)
  | bbs6 (z r : Byte)
  | bbs7 (z r : Byte)
  | jmpAbs (a : Addr)
  | jmpInd (a : Addr)
  | jmpAix (a : Addr)
  | jsr (a : Addr)
  | rts
  | rti
  | brk
  | nop
  | pha
  | php
  | pla
  | plp
  | phx
  | phy
  | plx
  | ply
  | clc
  | cld
  | cli
  | clv
  | sec
  | sed
  | sei
  deriving DecidableEq, Repr

/-- The addressing modes that yield an effective address (R165), each with the operand the instruction holds. -/
inductive MemMode
  | zp (z : Byte)
  | zpx (z : Byte)
  | zpy (z : Byte)
  | abs (a : Addr)
  | absx (a : Addr)
  | absy (a : Addr)
  | indx (z : Byte)
  | indy (z : Byte)
  | zpi (z : Byte)
  deriving DecidableEq, Repr

/-- The operand of an instruction by its format (R141). -/
inductive Operand
  | imp
  | acc
  | imm (v : Byte)
  | mem (m : MemMode)
  | ind (a : Addr)
  | aix (a : Addr)
  | rel (r : Byte)
  | zprel (z r : Byte)
  deriving DecidableEq, Repr

/-- The mnemonics of the instruction rules; the bit instructions carry their bit number (R143). -/
inductive Mnemonic
  | lda
  | ldx
  | ldy
  | sta
  | stx
  | sty
  | stz
  | tax
  | tay
  | txa
  | tya
  | tsx
  | txs
  | adc
  | sbc
  | cmp
  | cpx
  | cpy
  | inc
  | dec
  | inx
  | iny
  | dex
  | dey
  | and
  | ora
  | eor
  | bit
  | asl
  | lsr
  | rol
  | ror
  | trb
  | tsb
  | rmb (b : Fin 8)
  | smb (b : Fin 8)
  | bpl
  | bmi
  | bvc
  | bvs
  | bcc
  | bcs
  | bne
  | beq
  | bra
  | bbr (b : Fin 8)
  | bbs (b : Fin 8)
  | jmp
  | jsr
  | rts
  | rti
  | brk
  | nop
  | pha
  | php
  | pla
  | plp
  | phx
  | phy
  | plx
  | ply
  | clc
  | cld
  | cli
  | clv
  | sec
  | sed
  | sei
  deriving DecidableEq, Repr

end Sys2Proof
end

