-- ==== Sys2Proof/Decode.lean ====
section
/-! DEFINITION. The byte order of operands (20_memory.md R62), the facts of an instruction's row of the opcode table
(mnemonic, operand format, opcode byte, models), the decoder (30_encoding.md R144 to R150), total on any bytes and
rejecting by name, and after it the encoder. -/

namespace Sys2Proof

/-! ## Bytes of a 16-bit quantity (R14, R62) -/

/-- `w16(h, l)` (R14): two bytes joined, high first. -/
def w16 (h l : Byte) : Addr := h ++ l

/-- `lo(v) = v[7:0]` (R14). -/
def lo8 (v : Addr) : Byte := v.extractLsb' 0 8

/-- `hi(v) = v[15:8]` (R14), which is also `page(v)`. -/
def hi8 (v : Addr) : Byte := v.extractLsb' 8 8

/-! ## The opcode map (R147)

One function for each row of the map (the high nibble), one line for each column that is not empty. `b1` and `b2` are the
bytes after the opcode; a 16-bit operand is little-endian (R142). -/

/-- Row 0x of the opcode map (R147). -/
def opcodeRow0 (col : Nat) (b1 b2 : Byte) : Option Instr :=
  match col with
  | 0x0 => some .brk
  | 0x1 => some (.oraIndx b1)
  | 0x4 => some (.tsbZp b1)
  | 0x5 => some (.oraZp b1)
  | 0x6 => some (.aslZp b1)
  | 0x7 => some (.rmb0 b1)
  | 0x8 => some .php
  | 0x9 => some (.oraImm b1)
  | 0xA => some .aslAcc
  | 0xC => some (.tsbAbs (w16 b2 b1))
  | 0xD => some (.oraAbs (w16 b2 b1))
  | 0xE => some (.aslAbs (w16 b2 b1))
  | 0xF => some (.bbr0 b1 b2)
  | _ => none

/-- Row 1x of the opcode map (R147). -/
def opcodeRow1 (col : Nat) (b1 b2 : Byte) : Option Instr :=
  match col with
  | 0x0 => some (.bpl b1)
  | 0x1 => some (.oraIndy b1)
  | 0x2 => some (.oraZpi b1)
  | 0x4 => some (.trbZp b1)
  | 0x5 => some (.oraZpx b1)
  | 0x6 => some (.aslZpx b1)
  | 0x7 => some (.rmb1 b1)
  | 0x8 => some .clc
  | 0x9 => some (.oraAbsy (w16 b2 b1))
  | 0xA => some .incAcc
  | 0xC => some (.trbAbs (w16 b2 b1))
  | 0xD => some (.oraAbsx (w16 b2 b1))
  | 0xE => some (.aslAbsx (w16 b2 b1))
  | 0xF => some (.bbr1 b1 b2)
  | _ => none

/-- Row 2x of the opcode map (R147). -/
def opcodeRow2 (col : Nat) (b1 b2 : Byte) : Option Instr :=
  match col with
  | 0x0 => some (.jsr (w16 b2 b1))
  | 0x1 => some (.andIndx b1)
  | 0x4 => some (.bitZp b1)
  | 0x5 => some (.andZp b1)
  | 0x6 => some (.rolZp b1)
  | 0x7 => some (.rmb2 b1)
  | 0x8 => some .plp
  | 0x9 => some (.andImm b1)
  | 0xA => some .rolAcc
  | 0xC => some (.bitAbs (w16 b2 b1))
  | 0xD => some (.andAbs (w16 b2 b1))
  | 0xE => some (.rolAbs (w16 b2 b1))
  | 0xF => some (.bbr2 b1 b2)
  | _ => none

/-- Row 3x of the opcode map (R147). -/
def opcodeRow3 (col : Nat) (b1 b2 : Byte) : Option Instr :=
  match col with
  | 0x0 => some (.bmi b1)
  | 0x1 => some (.andIndy b1)
  | 0x2 => some (.andZpi b1)
  | 0x4 => some (.bitZpx b1)
  | 0x5 => some (.andZpx b1)
  | 0x6 => some (.rolZpx b1)
  | 0x7 => some (.rmb3 b1)
  | 0x8 => some .sec
  | 0x9 => some (.andAbsy (w16 b2 b1))
  | 0xA => some .decAcc
  | 0xC => some (.bitAbsx (w16 b2 b1))
  | 0xD => some (.andAbsx (w16 b2 b1))
  | 0xE => some (.rolAbsx (w16 b2 b1))
  | 0xF => some (.bbr3 b1 b2)
  | _ => none

/-- Row 4x of the opcode map (R147). -/
def opcodeRow4 (col : Nat) (b1 b2 : Byte) : Option Instr :=
  match col with
  | 0x0 => some .rti
  | 0x1 => some (.eorIndx b1)
  | 0x5 => some (.eorZp b1)
  | 0x6 => some (.lsrZp b1)
  | 0x7 => some (.rmb4 b1)
  | 0x8 => some .pha
  | 0x9 => some (.eorImm b1)
  | 0xA => some .lsrAcc
  | 0xC => some (.jmpAbs (w16 b2 b1))
  | 0xD => some (.eorAbs (w16 b2 b1))
  | 0xE => some (.lsrAbs (w16 b2 b1))
  | 0xF => some (.bbr4 b1 b2)
  | _ => none

/-- Row 5x of the opcode map (R147). -/
def opcodeRow5 (col : Nat) (b1 b2 : Byte) : Option Instr :=
  match col with
  | 0x0 => some (.bvc b1)
  | 0x1 => some (.eorIndy b1)
  | 0x2 => some (.eorZpi b1)
  | 0x5 => some (.eorZpx b1)
  | 0x6 => some (.lsrZpx b1)
  | 0x7 => some (.rmb5 b1)
  | 0x8 => some .cli
  | 0x9 => some (.eorAbsy (w16 b2 b1))
  | 0xA => some .phy
  | 0xD => some (.eorAbsx (w16 b2 b1))
  | 0xE => some (.lsrAbsx (w16 b2 b1))
  | 0xF => some (.bbr5 b1 b2)
  | _ => none

/-- Row 6x of the opcode map (R147). -/
def opcodeRow6 (col : Nat) (b1 b2 : Byte) : Option Instr :=
  match col with
  | 0x0 => some .rts
  | 0x1 => some (.adcIndx b1)
  | 0x4 => some (.stzZp b1)
  | 0x5 => some (.adcZp b1)
  | 0x6 => some (.rorZp b1)
  | 0x7 => some (.rmb6 b1)
  | 0x8 => some .pla
  | 0x9 => some (.adcImm b1)
  | 0xA => some .rorAcc
  | 0xC => some (.jmpInd (w16 b2 b1))
  | 0xD => some (.adcAbs (w16 b2 b1))
  | 0xE => some (.rorAbs (w16 b2 b1))
  | 0xF => some (.bbr6 b1 b2)
  | _ => none

/-- Row 7x of the opcode map (R147). -/
def opcodeRow7 (col : Nat) (b1 b2 : Byte) : Option Instr :=
  match col with
  | 0x0 => some (.bvs b1)
  | 0x1 => some (.adcIndy b1)
  | 0x2 => some (.adcZpi b1)
  | 0x4 => some (.stzZpx b1)
  | 0x5 => some (.adcZpx b1)
  | 0x6 => some (.rorZpx b1)
  | 0x7 => some (.rmb7 b1)
  | 0x8 => some .sei
  | 0x9 => some (.adcAbsy (w16 b2 b1))
  | 0xA => some .ply
  | 0xC => some (.jmpAix (w16 b2 b1))
  | 0xD => some (.adcAbsx (w16 b2 b1))
  | 0xE => some (.rorAbsx (w16 b2 b1))
  | 0xF => some (.bbr7 b1 b2)
  | _ => none

/-- Row 8x of the opcode map (R147). -/
def opcodeRow8 (col : Nat) (b1 b2 : Byte) : Option Instr :=
  match col with
  | 0x0 => some (.bra b1)
  | 0x1 => some (.staIndx b1)
  | 0x4 => some (.styZp b1)
  | 0x5 => some (.staZp b1)
  | 0x6 => some (.stxZp b1)
  | 0x7 => some (.smb0 b1)
  | 0x8 => some .dey
  | 0x9 => some (.bitImm b1)
  | 0xA => some .txa
  | 0xC => some (.styAbs (w16 b2 b1))
  | 0xD => some (.staAbs (w16 b2 b1))
  | 0xE => some (.stxAbs (w16 b2 b1))
  | 0xF => some (.bbs0 b1 b2)
  | _ => none

/-- Row 9x of the opcode map (R147). -/
def opcodeRow9 (col : Nat) (b1 b2 : Byte) : Option Instr :=
  match col with
  | 0x0 => some (.bcc b1)
  | 0x1 => some (.staIndy b1)
  | 0x2 => some (.staZpi b1)
  | 0x4 => some (.styZpx b1)
  | 0x5 => some (.staZpx b1)
  | 0x6 => some (.stxZpy b1)
  | 0x7 => some (.smb1 b1)
  | 0x8 => some .tya
  | 0x9 => some (.staAbsy (w16 b2 b1))
  | 0xA => some .txs
  | 0xC => some (.stzAbs (w16 b2 b1))
  | 0xD => some (.staAbsx (w16 b2 b1))
  | 0xE => some (.stzAbsx (w16 b2 b1))
  | 0xF => some (.bbs1 b1 b2)
  | _ => none

/-- Row Ax of the opcode map (R147). -/
def opcodeRowA (col : Nat) (b1 b2 : Byte) : Option Instr :=
  match col with
  | 0x0 => some (.ldyImm b1)
  | 0x1 => some (.ldaIndx b1)
  | 0x2 => some (.ldxImm b1)
  | 0x4 => some (.ldyZp b1)
  | 0x5 => some (.ldaZp b1)
  | 0x6 => some (.ldxZp b1)
  | 0x7 => some (.smb2 b1)
  | 0x8 => some .tay
  | 0x9 => some (.ldaImm b1)
  | 0xA => some .tax
  | 0xC => some (.ldyAbs (w16 b2 b1))
  | 0xD => some (.ldaAbs (w16 b2 b1))
  | 0xE => some (.ldxAbs (w16 b2 b1))
  | 0xF => some (.bbs2 b1 b2)
  | _ => none

/-- Row Bx of the opcode map (R147). -/
def opcodeRowB (col : Nat) (b1 b2 : Byte) : Option Instr :=
  match col with
  | 0x0 => some (.bcs b1)
  | 0x1 => some (.ldaIndy b1)
  | 0x2 => some (.ldaZpi b1)
  | 0x4 => some (.ldyZpx b1)
  | 0x5 => some (.ldaZpx b1)
  | 0x6 => some (.ldxZpy b1)
  | 0x7 => some (.smb3 b1)
  | 0x8 => some .clv
  | 0x9 => some (.ldaAbsy (w16 b2 b1))
  | 0xA => some .tsx
  | 0xC => some (.ldyAbsx (w16 b2 b1))
  | 0xD => some (.ldaAbsx (w16 b2 b1))
  | 0xE => some (.ldxAbsy (w16 b2 b1))
  | 0xF => some (.bbs3 b1 b2)
  | _ => none

/-- Row Cx of the opcode map (R147). -/
def opcodeRowC (col : Nat) (b1 b2 : Byte) : Option Instr :=
  match col with
  | 0x0 => some (.cpyImm b1)
  | 0x1 => some (.cmpIndx b1)
  | 0x4 => some (.cpyZp b1)
  | 0x5 => some (.cmpZp b1)
  | 0x6 => some (.decZp b1)
  | 0x7 => some (.smb4 b1)
  | 0x8 => some .iny
  | 0x9 => some (.cmpImm b1)
  | 0xA => some .dex
  | 0xC => some (.cpyAbs (w16 b2 b1))
  | 0xD => some (.cmpAbs (w16 b2 b1))
  | 0xE => some (.decAbs (w16 b2 b1))
  | 0xF => some (.bbs4 b1 b2)
  | _ => none

/-- Row Dx of the opcode map (R147). -/
def opcodeRowD (col : Nat) (b1 b2 : Byte) : Option Instr :=
  match col with
  | 0x0 => some (.bne b1)
  | 0x1 => some (.cmpIndy b1)
  | 0x2 => some (.cmpZpi b1)
  | 0x5 => some (.cmpZpx b1)
  | 0x6 => some (.decZpx b1)
  | 0x7 => some (.smb5 b1)
  | 0x8 => some .cld
  | 0x9 => some (.cmpAbsy (w16 b2 b1))
  | 0xA => some .phx
  | 0xD => some (.cmpAbsx (w16 b2 b1))
  | 0xE => some (.decAbsx (w16 b2 b1))
  | 0xF => some (.bbs5 b1 b2)
  | _ => none

/-- Row Ex of the opcode map (R147). -/
def opcodeRowE (col : Nat) (b1 b2 : Byte) : Option Instr :=
  match col with
  | 0x0 => some (.cpxImm b1)
  | 0x1 => some (.sbcIndx b1)
  | 0x4 => some (.cpxZp b1)
  | 0x5 => some (.sbcZp b1)
  | 0x6 => some (.incZp b1)
  | 0x7 => some (.smb6 b1)
  | 0x8 => some .inx
  | 0x9 => some (.sbcImm b1)
  | 0xA => some .nop
  | 0xC => some (.cpxAbs (w16 b2 b1))
  | 0xD => some (.sbcAbs (w16 b2 b1))
  | 0xE => some (.incAbs (w16 b2 b1))
  | 0xF => some (.bbs6 b1 b2)
  | _ => none

/-- Row Fx of the opcode map (R147). -/
def opcodeRowF (col : Nat) (b1 b2 : Byte) : Option Instr :=
  match col with
  | 0x0 => some (.beq b1)
  | 0x1 => some (.sbcIndy b1)
  | 0x2 => some (.sbcZpi b1)
  | 0x5 => some (.sbcZpx b1)
  | 0x6 => some (.incZpx b1)
  | 0x7 => some (.smb7 b1)
  | 0x8 => some .sed
  | 0x9 => some (.sbcAbsy (w16 b2 b1))
  | 0xA => some .plx
  | 0xD => some (.sbcAbsx (w16 b2 b1))
  | 0xE => some (.incAbsx (w16 b2 b1))
  | 0xF => some (.bbs7 b1 b2)
  | _ => none

/-- The 256-entry table of R144: the instruction of opcode `op` followed by `b1` and `b2`, or an empty entry. -/
def opcodeMap (op b1 b2 : Byte) : Option Instr :=
  match op.toNat / 16 with
  | 0x0 => opcodeRow0 (op.toNat % 16) b1 b2
  | 0x1 => opcodeRow1 (op.toNat % 16) b1 b2
  | 0x2 => opcodeRow2 (op.toNat % 16) b1 b2
  | 0x3 => opcodeRow3 (op.toNat % 16) b1 b2
  | 0x4 => opcodeRow4 (op.toNat % 16) b1 b2
  | 0x5 => opcodeRow5 (op.toNat % 16) b1 b2
  | 0x6 => opcodeRow6 (op.toNat % 16) b1 b2
  | 0x7 => opcodeRow7 (op.toNat % 16) b1 b2
  | 0x8 => opcodeRow8 (op.toNat % 16) b1 b2
  | 0x9 => opcodeRow9 (op.toNat % 16) b1 b2
  | 0xA => opcodeRowA (op.toNat % 16) b1 b2
  | 0xB => opcodeRowB (op.toNat % 16) b1 b2
  | 0xC => opcodeRowC (op.toNat % 16) b1 b2
  | 0xD => opcodeRowD (op.toNat % 16) b1 b2
  | 0xE => opcodeRowE (op.toNat % 16) b1 b2
  | _ => opcodeRowF (op.toNat % 16) b1 b2

/-- The 59 opcodes marked `*` in R147: present on `CMOS65C02` only (R146). -/
def cmosOnlyOpcodes : List Byte :=
  [0x04, 0x07, 0x0C, 0x0F,
   0x12, 0x14, 0x17, 0x1A, 0x1C, 0x1F,
   0x27, 0x2F,
   0x32, 0x34, 0x37, 0x3A, 0x3C, 0x3F,
   0x47, 0x4F,
   0x52, 0x57, 0x5A, 0x5F,
   0x64, 0x67, 0x6F,
   0x72, 0x74, 0x77, 0x7A, 0x7C, 0x7F,
   0x80, 0x87, 0x89, 0x8F,
   0x92, 0x97, 0x9C, 0x9E, 0x9F,
   0xA7, 0xAF,
   0xB2, 0xB7, 0xBF,
   0xC7, 0xCF,
   0xD2, 0xD7, 0xDA, 0xDF,
   0xE7, 0xEF,
   0xF2, 0xF7, 0xFA, 0xFF]

/-- The opcode has an entry in the table of model `m` (R146, R149, R150), given that it has one in the map. -/
def legalOpcode (m : CpuModel) (op : Byte) : Bool :=
  match m with
  | .cmos65c02 => true
  | .nmos6502  => !cmosOnlyOpcodes.contains op

/-! ## What the opcode table says of each instruction -/

/-- The mnemonic of the instruction's row. -/
def Instr.mnemonic : Instr → Mnemonic
  | .ldaImm _ => .lda
  | .ldaZp _ => .lda
  | .ldaZpx _ => .lda
  | .ldaAbs _ => .lda
  | .ldaAbsx _ => .lda
  | .ldaAbsy _ => .lda
  | .ldaIndx _ => .lda
  | .ldaIndy _ => .lda
  | .ldaZpi _ => .lda
  | .ldxImm _ => .ldx
  | .ldxZp _ => .ldx
  | .ldxZpy _ => .ldx
  | .ldxAbs _ => .ldx
  | .ldxAbsy _ => .ldx
  | .ldyImm _ => .ldy
  | .ldyZp _ => .ldy
  | .ldyZpx _ => .ldy
  | .ldyAbs _ => .ldy
  | .ldyAbsx _ => .ldy
  | .staZp _ => .sta
  | .staZpx _ => .sta
  | .staAbs _ => .sta
  | .staAbsx _ => .sta
  | .staAbsy _ => .sta
  | .staIndx _ => .sta
  | .staIndy _ => .sta
  | .staZpi _ => .sta
  | .stxZp _ => .stx
  | .stxZpy _ => .stx
  | .stxAbs _ => .stx
  | .styZp _ => .sty
  | .styZpx _ => .sty
  | .styAbs _ => .sty
  | .stzZp _ => .stz
  | .stzZpx _ => .stz
  | .stzAbs _ => .stz
  | .stzAbsx _ => .stz
  | .tax => .tax
  | .tay => .tay
  | .txa => .txa
  | .tya => .tya
  | .tsx => .tsx
  | .txs => .txs
  | .adcImm _ => .adc
  | .adcZp _ => .adc
  | .adcZpx _ => .adc
  | .adcAbs _ => .adc
  | .adcAbsx _ => .adc
  | .adcAbsy _ => .adc
  | .adcIndx _ => .adc
  | .adcIndy _ => .adc
  | .adcZpi _ => .adc
  | .sbcImm _ => .sbc
  | .sbcZp _ => .sbc
  | .sbcZpx _ => .sbc
  | .sbcAbs _ => .sbc
  | .sbcAbsx _ => .sbc
  | .sbcAbsy _ => .sbc
  | .sbcIndx _ => .sbc
  | .sbcIndy _ => .sbc
  | .sbcZpi _ => .sbc
  | .cmpImm _ => .cmp
  | .cmpZp _ => .cmp
  | .cmpZpx _ => .cmp
  | .cmpAbs _ => .cmp
  | .cmpAbsx _ => .cmp
  | .cmpAbsy _ => .cmp
  | .cmpIndx _ => .cmp
  | .cmpIndy _ => .cmp
  | .cmpZpi _ => .cmp
  | .cpxImm _ => .cpx
  | .cpxZp _ => .cpx
  | .cpxAbs _ => .cpx
  | .cpyImm _ => .cpy
  | .cpyZp _ => .cpy
  | .cpyAbs _ => .cpy
  | .incAcc => .inc
  | .incZp _ => .inc
  | .incZpx _ => .inc
  | .incAbs _ => .inc
  | .incAbsx _ => .inc
  | .decAcc => .dec
  | .decZp _ => .dec
  | .decZpx _ => .dec
  | .decAbs _ => .dec
  | .decAbsx _ => .dec
  | .inx => .inx
  | .iny => .iny
  | .dex => .dex
  | .dey => .dey
  | .andImm _ => .and
  | .andZp _ => .and
  | .andZpx _ => .and
  | .andAbs _ => .and
  | .andAbsx _ => .and
  | .andAbsy _ => .and
  | .andIndx _ => .and
  | .andIndy _ => .and
  | .andZpi _ => .and
  | .oraImm _ => .ora
  | .oraZp _ => .ora
  | .oraZpx _ => .ora
  | .oraAbs _ => .ora
  | .oraAbsx _ => .ora
  | .oraAbsy _ => .ora
  | .oraIndx _ => .ora
  | .oraIndy _ => .ora
  | .oraZpi _ => .ora
  | .eorImm _ => .eor
  | .eorZp _ => .eor
  | .eorZpx _ => .eor
  | .eorAbs _ => .eor
  | .eorAbsx _ => .eor
  | .eorAbsy _ => .eor
  | .eorIndx _ => .eor
  | .eorIndy _ => .eor
  | .eorZpi _ => .eor
  | .bitImm _ => .bit
  | .bitZp _ => .bit
  | .bitZpx _ => .bit
  | .bitAbs _ => .bit
  | .bitAbsx _ => .bit
  | .aslAcc => .asl
  | .aslZp _ => .asl
  | .aslZpx _ => .asl
  | .aslAbs _ => .asl
  | .aslAbsx _ => .asl
  | .lsrAcc => .lsr
  | .lsrZp _ => .lsr
  | .lsrZpx _ => .lsr
  | .lsrAbs _ => .lsr
  | .lsrAbsx _ => .lsr
  | .rolAcc => .rol
  | .rolZp _ => .rol
  | .rolZpx _ => .rol
  | .rolAbs _ => .rol
  | .rolAbsx _ => .rol
  | .rorAcc => .ror
  | .rorZp _ => .ror
  | .rorZpx _ => .ror
  | .rorAbs _ => .ror
  | .rorAbsx _ => .ror
  | .trbZp _ => .trb
  | .trbAbs _ => .trb
  | .tsbZp _ => .tsb
  | .tsbAbs _ => .tsb
  | .rmb0 _ => .rmb 0
  | .rmb1 _ => .rmb 1
  | .rmb2 _ => .rmb 2
  | .rmb3 _ => .rmb 3
  | .rmb4 _ => .rmb 4
  | .rmb5 _ => .rmb 5
  | .rmb6 _ => .rmb 6
  | .rmb7 _ => .rmb 7
  | .smb0 _ => .smb 0
  | .smb1 _ => .smb 1
  | .smb2 _ => .smb 2
  | .smb3 _ => .smb 3
  | .smb4 _ => .smb 4
  | .smb5 _ => .smb 5
  | .smb6 _ => .smb 6
  | .smb7 _ => .smb 7
  | .bpl _ => .bpl
  | .bmi _ => .bmi
  | .bvc _ => .bvc
  | .bvs _ => .bvs
  | .bcc _ => .bcc
  | .bcs _ => .bcs
  | .bne _ => .bne
  | .beq _ => .beq
  | .bra _ => .bra
  | .bbr0 _ _ => .bbr 0
  | .bbr1 _ _ => .bbr 1
  | .bbr2 _ _ => .bbr 2
  | .bbr3 _ _ => .bbr 3
  | .bbr4 _ _ => .bbr 4
  | .bbr5 _ _ => .bbr 5
  | .bbr6 _ _ => .bbr 6
  | .bbr7 _ _ => .bbr 7
  | .bbs0 _ _ => .bbs 0
  | .bbs1 _ _ => .bbs 1
  | .bbs2 _ _ => .bbs 2
  | .bbs3 _ _ => .bbs 3
  | .bbs4 _ _ => .bbs 4
  | .bbs5 _ _ => .bbs 5
  | .bbs6 _ _ => .bbs 6
  | .bbs7 _ _ => .bbs 7
  | .jmpAbs _ => .jmp
  | .jmpInd _ => .jmp
  | .jmpAix _ => .jmp
  | .jsr _ => .jsr
  | .rts => .rts
  | .rti => .rti
  | .brk => .brk
  | .nop => .nop
  | .pha => .pha
  | .php => .php
  | .pla => .pla
  | .plp => .plp
  | .phx => .phx
  | .phy => .phy
  | .plx => .plx
  | .ply => .ply
  | .clc => .clc
  | .cld => .cld
  | .cli => .cli
  | .clv => .clv
  | .sec => .sec
  | .sed => .sed
  | .sei => .sei

/-- The operand by the instruction's format (R141). -/
def Instr.operand : Instr → Operand
  | .ldaImm v => .imm v
  | .ldaZp z => .mem (.zp z)
  | .ldaZpx z => .mem (.zpx z)
  | .ldaAbs a => .mem (.abs a)
  | .ldaAbsx a => .mem (.absx a)
  | .ldaAbsy a => .mem (.absy a)
  | .ldaIndx z => .mem (.indx z)
  | .ldaIndy z => .mem (.indy z)
  | .ldaZpi z => .mem (.zpi z)
  | .ldxImm v => .imm v
  | .ldxZp z => .mem (.zp z)
  | .ldxZpy z => .mem (.zpy z)
  | .ldxAbs a => .mem (.abs a)
  | .ldxAbsy a => .mem (.absy a)
  | .ldyImm v => .imm v
  | .ldyZp z => .mem (.zp z)
  | .ldyZpx z => .mem (.zpx z)
  | .ldyAbs a => .mem (.abs a)
  | .ldyAbsx a => .mem (.absx a)
  | .staZp z => .mem (.zp z)
  | .staZpx z => .mem (.zpx z)
  | .staAbs a => .mem (.abs a)
  | .staAbsx a => .mem (.absx a)
  | .staAbsy a => .mem (.absy a)
  | .staIndx z => .mem (.indx z)
  | .staIndy z => .mem (.indy z)
  | .staZpi z => .mem (.zpi z)
  | .stxZp z => .mem (.zp z)
  | .stxZpy z => .mem (.zpy z)
  | .stxAbs a => .mem (.abs a)
  | .styZp z => .mem (.zp z)
  | .styZpx z => .mem (.zpx z)
  | .styAbs a => .mem (.abs a)
  | .stzZp z => .mem (.zp z)
  | .stzZpx z => .mem (.zpx z)
  | .stzAbs a => .mem (.abs a)
  | .stzAbsx a => .mem (.absx a)
  | .tax => .imp
  | .tay => .imp
  | .txa => .imp
  | .tya => .imp
  | .tsx => .imp
  | .txs => .imp
  | .adcImm v => .imm v
  | .adcZp z => .mem (.zp z)
  | .adcZpx z => .mem (.zpx z)
  | .adcAbs a => .mem (.abs a)
  | .adcAbsx a => .mem (.absx a)
  | .adcAbsy a => .mem (.absy a)
  | .adcIndx z => .mem (.indx z)
  | .adcIndy z => .mem (.indy z)
  | .adcZpi z => .mem (.zpi z)
  | .sbcImm v => .imm v
  | .sbcZp z => .mem (.zp z)
  | .sbcZpx z => .mem (.zpx z)
  | .sbcAbs a => .mem (.abs a)
  | .sbcAbsx a => .mem (.absx a)
  | .sbcAbsy a => .mem (.absy a)
  | .sbcIndx z => .mem (.indx z)
  | .sbcIndy z => .mem (.indy z)
  | .sbcZpi z => .mem (.zpi z)
  | .cmpImm v => .imm v
  | .cmpZp z => .mem (.zp z)
  | .cmpZpx z => .mem (.zpx z)
  | .cmpAbs a => .mem (.abs a)
  | .cmpAbsx a => .mem (.absx a)
  | .cmpAbsy a => .mem (.absy a)
  | .cmpIndx z => .mem (.indx z)
  | .cmpIndy z => .mem (.indy z)
  | .cmpZpi z => .mem (.zpi z)
  | .cpxImm v => .imm v
  | .cpxZp z => .mem (.zp z)
  | .cpxAbs a => .mem (.abs a)
  | .cpyImm v => .imm v
  | .cpyZp z => .mem (.zp z)
  | .cpyAbs a => .mem (.abs a)
  | .incAcc => .acc
  | .incZp z => .mem (.zp z)
  | .incZpx z => .mem (.zpx z)
  | .incAbs a => .mem (.abs a)
  | .incAbsx a => .mem (.absx a)
  | .decAcc => .acc
  | .decZp z => .mem (.zp z)
  | .decZpx z => .mem (.zpx z)
  | .decAbs a => .mem (.abs a)
  | .decAbsx a => .mem (.absx a)
  | .inx => .imp
  | .iny => .imp
  | .dex => .imp
  | .dey => .imp
  | .andImm v => .imm v
  | .andZp z => .mem (.zp z)
  | .andZpx z => .mem (.zpx z)
  | .andAbs a => .mem (.abs a)
  | .andAbsx a => .mem (.absx a)
  | .andAbsy a => .mem (.absy a)
  | .andIndx z => .mem (.indx z)
  | .andIndy z => .mem (.indy z)
  | .andZpi z => .mem (.zpi z)
  | .oraImm v => .imm v
  | .oraZp z => .mem (.zp z)
  | .oraZpx z => .mem (.zpx z)
  | .oraAbs a => .mem (.abs a)
  | .oraAbsx a => .mem (.absx a)
  | .oraAbsy a => .mem (.absy a)
  | .oraIndx z => .mem (.indx z)
  | .oraIndy z => .mem (.indy z)
  | .oraZpi z => .mem (.zpi z)
  | .eorImm v => .imm v
  | .eorZp z => .mem (.zp z)
  | .eorZpx z => .mem (.zpx z)
  | .eorAbs a => .mem (.abs a)
  | .eorAbsx a => .mem (.absx a)
  | .eorAbsy a => .mem (.absy a)
  | .eorIndx z => .mem (.indx z)
  | .eorIndy z => .mem (.indy z)
  | .eorZpi z => .mem (.zpi z)
  | .bitImm v => .imm v
  | .bitZp z => .mem (.zp z)
  | .bitZpx z => .mem (.zpx z)
  | .bitAbs a => .mem (.abs a)
  | .bitAbsx a => .mem (.absx a)
  | .aslAcc => .acc
  | .aslZp z => .mem (.zp z)
  | .aslZpx z => .mem (.zpx z)
  | .aslAbs a => .mem (.abs a)
  | .aslAbsx a => .mem (.absx a)
  | .lsrAcc => .acc
  | .lsrZp z => .mem (.zp z)
  | .lsrZpx z => .mem (.zpx z)
  | .lsrAbs a => .mem (.abs a)
  | .lsrAbsx a => .mem (.absx a)
  | .rolAcc => .acc
  | .rolZp z => .mem (.zp z)
  | .rolZpx z => .mem (.zpx z)
  | .rolAbs a => .mem (.abs a)
  | .rolAbsx a => .mem (.absx a)
  | .rorAcc => .acc
  | .rorZp z => .mem (.zp z)
  | .rorZpx z => .mem (.zpx z)
  | .rorAbs a => .mem (.abs a)
  | .rorAbsx a => .mem (.absx a)
  | .trbZp z => .mem (.zp z)
  | .trbAbs a => .mem (.abs a)
  | .tsbZp z => .mem (.zp z)
  | .tsbAbs a => .mem (.abs a)
  | .rmb0 z => .mem (.zp z)
  | .rmb1 z => .mem (.zp z)
  | .rmb2 z => .mem (.zp z)
  | .rmb3 z => .mem (.zp z)
  | .rmb4 z => .mem (.zp z)
  | .rmb5 z => .mem (.zp z)
  | .rmb6 z => .mem (.zp z)
  | .rmb7 z => .mem (.zp z)
  | .smb0 z => .mem (.zp z)
  | .smb1 z => .mem (.zp z)
  | .smb2 z => .mem (.zp z)
  | .smb3 z => .mem (.zp z)
  | .smb4 z => .mem (.zp z)
  | .smb5 z => .mem (.zp z)
  | .smb6 z => .mem (.zp z)
  | .smb7 z => .mem (.zp z)
  | .bpl r => .rel r
  | .bmi r => .rel r
  | .bvc r => .rel r
  | .bvs r => .rel r
  | .bcc r => .rel r
  | .bcs r => .rel r
  | .bne r => .rel r
  | .beq r => .rel r
  | .bra r => .rel r
  | .bbr0 z r => .zprel z r
  | .bbr1 z r => .zprel z r
  | .bbr2 z r => .zprel z r
  | .bbr3 z r => .zprel z r
  | .bbr4 z r => .zprel z r
  | .bbr5 z r => .zprel z r
  | .bbr6 z r => .zprel z r
  | .bbr7 z r => .zprel z r
  | .bbs0 z r => .zprel z r
  | .bbs1 z r => .zprel z r
  | .bbs2 z r => .zprel z r
  | .bbs3 z r => .zprel z r
  | .bbs4 z r => .zprel z r
  | .bbs5 z r => .zprel z r
  | .bbs6 z r => .zprel z r
  | .bbs7 z r => .zprel z r
  | .jmpAbs a => .mem (.abs a)
  | .jmpInd a => .ind a
  | .jmpAix a => .aix a
  | .jsr a => .mem (.abs a)
  | .rts => .imp
  | .rti => .imp
  | .brk => .imp
  | .nop => .imp
  | .pha => .imp
  | .php => .imp
  | .pla => .imp
  | .plp => .imp
  | .phx => .imp
  | .phy => .imp
  | .plx => .imp
  | .ply => .imp
  | .clc => .imp
  | .cld => .imp
  | .cli => .imp
  | .clv => .imp
  | .sec => .imp
  | .sed => .imp
  | .sei => .imp

/-- The opcode byte of the instruction's row. -/
def Instr.opcode : Instr → Byte
  | .ldaImm _ => 0xA9
  | .ldaZp _ => 0xA5
  | .ldaZpx _ => 0xB5
  | .ldaAbs _ => 0xAD
  | .ldaAbsx _ => 0xBD
  | .ldaAbsy _ => 0xB9
  | .ldaIndx _ => 0xA1
  | .ldaIndy _ => 0xB1
  | .ldaZpi _ => 0xB2
  | .ldxImm _ => 0xA2
  | .ldxZp _ => 0xA6
  | .ldxZpy _ => 0xB6
  | .ldxAbs _ => 0xAE
  | .ldxAbsy _ => 0xBE
  | .ldyImm _ => 0xA0
  | .ldyZp _ => 0xA4
  | .ldyZpx _ => 0xB4
  | .ldyAbs _ => 0xAC
  | .ldyAbsx _ => 0xBC
  | .staZp _ => 0x85
  | .staZpx _ => 0x95
  | .staAbs _ => 0x8D
  | .staAbsx _ => 0x9D
  | .staAbsy _ => 0x99
  | .staIndx _ => 0x81
  | .staIndy _ => 0x91
  | .staZpi _ => 0x92
  | .stxZp _ => 0x86
  | .stxZpy _ => 0x96
  | .stxAbs _ => 0x8E
  | .styZp _ => 0x84
  | .styZpx _ => 0x94
  | .styAbs _ => 0x8C
  | .stzZp _ => 0x64
  | .stzZpx _ => 0x74
  | .stzAbs _ => 0x9C
  | .stzAbsx _ => 0x9E
  | .tax => 0xAA
  | .tay => 0xA8
  | .txa => 0x8A
  | .tya => 0x98
  | .tsx => 0xBA
  | .txs => 0x9A
  | .adcImm _ => 0x69
  | .adcZp _ => 0x65
  | .adcZpx _ => 0x75
  | .adcAbs _ => 0x6D
  | .adcAbsx _ => 0x7D
  | .adcAbsy _ => 0x79
  | .adcIndx _ => 0x61
  | .adcIndy _ => 0x71
  | .adcZpi _ => 0x72
  | .sbcImm _ => 0xE9
  | .sbcZp _ => 0xE5
  | .sbcZpx _ => 0xF5
  | .sbcAbs _ => 0xED
  | .sbcAbsx _ => 0xFD
  | .sbcAbsy _ => 0xF9
  | .sbcIndx _ => 0xE1
  | .sbcIndy _ => 0xF1
  | .sbcZpi _ => 0xF2
  | .cmpImm _ => 0xC9
  | .cmpZp _ => 0xC5
  | .cmpZpx _ => 0xD5
  | .cmpAbs _ => 0xCD
  | .cmpAbsx _ => 0xDD
  | .cmpAbsy _ => 0xD9
  | .cmpIndx _ => 0xC1
  | .cmpIndy _ => 0xD1
  | .cmpZpi _ => 0xD2
  | .cpxImm _ => 0xE0
  | .cpxZp _ => 0xE4
  | .cpxAbs _ => 0xEC
  | .cpyImm _ => 0xC0
  | .cpyZp _ => 0xC4
  | .cpyAbs _ => 0xCC
  | .incAcc => 0x1A
  | .incZp _ => 0xE6
  | .incZpx _ => 0xF6
  | .incAbs _ => 0xEE
  | .incAbsx _ => 0xFE
  | .decAcc => 0x3A
  | .decZp _ => 0xC6
  | .decZpx _ => 0xD6
  | .decAbs _ => 0xCE
  | .decAbsx _ => 0xDE
  | .inx => 0xE8
  | .iny => 0xC8
  | .dex => 0xCA
  | .dey => 0x88
  | .andImm _ => 0x29
  | .andZp _ => 0x25
  | .andZpx _ => 0x35
  | .andAbs _ => 0x2D
  | .andAbsx _ => 0x3D
  | .andAbsy _ => 0x39
  | .andIndx _ => 0x21
  | .andIndy _ => 0x31
  | .andZpi _ => 0x32
  | .oraImm _ => 0x09
  | .oraZp _ => 0x05
  | .oraZpx _ => 0x15
  | .oraAbs _ => 0x0D
  | .oraAbsx _ => 0x1D
  | .oraAbsy _ => 0x19
  | .oraIndx _ => 0x01
  | .oraIndy _ => 0x11
  | .oraZpi _ => 0x12
  | .eorImm _ => 0x49
  | .eorZp _ => 0x45
  | .eorZpx _ => 0x55
  | .eorAbs _ => 0x4D
  | .eorAbsx _ => 0x5D
  | .eorAbsy _ => 0x59
  | .eorIndx _ => 0x41
  | .eorIndy _ => 0x51
  | .eorZpi _ => 0x52
  | .bitImm _ => 0x89
  | .bitZp _ => 0x24
  | .bitZpx _ => 0x34
  | .bitAbs _ => 0x2C
  | .bitAbsx _ => 0x3C
  | .aslAcc => 0x0A
  | .aslZp _ => 0x06
  | .aslZpx _ => 0x16
  | .aslAbs _ => 0x0E
  | .aslAbsx _ => 0x1E
  | .lsrAcc => 0x4A
  | .lsrZp _ => 0x46
  | .lsrZpx _ => 0x56
  | .lsrAbs _ => 0x4E
  | .lsrAbsx _ => 0x5E
  | .rolAcc => 0x2A
  | .rolZp _ => 0x26
  | .rolZpx _ => 0x36
  | .rolAbs _ => 0x2E
  | .rolAbsx _ => 0x3E
  | .rorAcc => 0x6A
  | .rorZp _ => 0x66
  | .rorZpx _ => 0x76
  | .rorAbs _ => 0x6E
  | .rorAbsx _ => 0x7E
  | .trbZp _ => 0x14
  | .trbAbs _ => 0x1C
  | .tsbZp _ => 0x04
  | .tsbAbs _ => 0x0C
  | .rmb0 _ => 0x07
  | .rmb1 _ => 0x17
  | .rmb2 _ => 0x27
  | .rmb3 _ => 0x37
  | .rmb4 _ => 0x47
  | .rmb5 _ => 0x57
  | .rmb6 _ => 0x67
  | .rmb7 _ => 0x77
  | .smb0 _ => 0x87
  | .smb1 _ => 0x97
  | .smb2 _ => 0xA7
  | .smb3 _ => 0xB7
  | .smb4 _ => 0xC7
  | .smb5 _ => 0xD7
  | .smb6 _ => 0xE7
  | .smb7 _ => 0xF7
  | .bpl _ => 0x10
  | .bmi _ => 0x30
  | .bvc _ => 0x50
  | .bvs _ => 0x70
  | .bcc _ => 0x90
  | .bcs _ => 0xB0
  | .bne _ => 0xD0
  | .beq _ => 0xF0
  | .bra _ => 0x80
  | .bbr0 _ _ => 0x0F
  | .bbr1 _ _ => 0x1F
  | .bbr2 _ _ => 0x2F
  | .bbr3 _ _ => 0x3F
  | .bbr4 _ _ => 0x4F
  | .bbr5 _ _ => 0x5F
  | .bbr6 _ _ => 0x6F
  | .bbr7 _ _ => 0x7F
  | .bbs0 _ _ => 0x8F
  | .bbs1 _ _ => 0x9F
  | .bbs2 _ _ => 0xAF
  | .bbs3 _ _ => 0xBF
  | .bbs4 _ _ => 0xCF
  | .bbs5 _ _ => 0xDF
  | .bbs6 _ _ => 0xEF
  | .bbs7 _ _ => 0xFF
  | .jmpAbs _ => 0x4C
  | .jmpInd _ => 0x6C
  | .jmpAix _ => 0x7C
  | .jsr _ => 0x20
  | .rts => 0x60
  | .rti => 0x40
  | .brk => 0x00
  | .nop => 0xEA
  | .pha => 0x48
  | .php => 0x08
  | .pla => 0x68
  | .plp => 0x28
  | .phx => 0xDA
  | .phy => 0x5A
  | .plx => 0xFA
  | .ply => 0x7A
  | .clc => 0x18
  | .cld => 0xD8
  | .cli => 0x58
  | .clv => 0xB8
  | .sec => 0x38
  | .sed => 0xF8
  | .sei => 0x78

/-- The operand bytes in increasing address order (R141, R142). -/
def Operand.bytes : Operand → List Byte
  | .imp | .acc => []
  | .imm v => [v]
  | .mem m =>
    match m with
    | .zp z | .zpx z | .zpy z | .indx z | .indy z | .zpi z => [z]
    | .abs a | .absx a | .absy a => [lo8 a, hi8 a]
  | .ind a | .aix a => [lo8 a, hi8 a]
  | .rel r => [r]
  | .zprel z r => [z, r]

/-- The length in bytes, 1, 2 or 3 (R140, R141). -/
def Instr.length (i : Instr) : Nat := 1 + i.operand.bytes.length

/-! ## The decoder -/

/-- Why bytes are no instruction. `noBytes` and `truncated` are the decoder's own, for a list that ends too soon; no rule speaks
of one, and `step` gives the decoder three bytes (DESIGN CHOICE, log entry 23). -/
inductive DecodeError
  /-- There is no byte to decode. -/
  | noBytes
  /-- The opcode's table entry is empty for the model (R148). -/
  | illegalOpcode (op : Byte)
  /-- Fewer bytes than the opcode's format has (R141). -/
  | truncated (op : Byte)
  deriving DecidableEq, Repr

/-- Decoding (R144 to R148) of the bytes at the front of a list, with the bytes that are left. The length follows from
the opcode alone (R145). -/
def decode (m : CpuModel) (bytes : List Byte) : Except DecodeError (Instr × List Byte) :=
  match bytes with
  | [] => .error .noBytes
  | op :: rest =>
    match opcodeMap op (rest.getD 0 0) (rest.getD 1 0) with
    | none => .error (.illegalOpcode op)
    | some i =>
      if legalOpcode m op then
        if bytes.length < i.length then .error (.truncated op) else .ok (i, bytes.drop i.length)
      else .error (.illegalOpcode op)

/-! ## The encoder -/

/-- The bytes of an instruction in increasing address order (R141). -/
def encode (i : Instr) : List Byte := i.opcode :: i.operand.bytes

/-- Byte `k` of an instruction whose bits are `w`, counted from the least significant bit of its first byte. -/
def wordByte (w k : Nat) : Byte := BitVec.ofNat 8 (w / 256 ^ k)

/-- The longest instruction laid out in memory order (R140), the bits of `w` above `nbits` zero. -/
def wordBytes (nbits w : Nat) : List Byte :=
  [wordByte (w % 2 ^ nbits) 0, wordByte (w % 2 ^ nbits) 1, wordByte (w % 2 ^ nbits) 2]

/-- What the decoder of `CMOS65C02`, whose table holds every row, reads from an instruction whose bits are `w` as
spec/opcode_table.json numbers them. -/
def decodeTableWord (nbits w : Nat) : Option Instr :=
  match decode .cmos65c02 (wordBytes nbits w) with
  | .ok (i, _) => some i
  | .error _ => none

end Sys2Proof
end

