-- ==== Sys2Proof/Machine/Cycles.lean ====
section
/-! DEFINITION. `CYCLE_TABLE` and the cost of an instruction (40_dispatch.md R185 to R188, 70_reset_and_hazards.md R382). -/

namespace Sys2Proof.Machine

/-- An entry with one base count on both models. -/
def cycleBoth (n : Nat) (penalty : PenaltyClass) : CycleEntry := ⟨n, n, penalty⟩

/-- An entry that exists on `CMOS65C02` only; the count on the other model is never used. -/
def cycleCmos (n : Nat) (penalty : PenaltyClass) : CycleEntry := ⟨0, n, penalty⟩

/-! The default table by rows of the opcode map (R147): the high nibble selects the function, the low nibble the line. The
entries are `cycles_6502`, `cycles_65C02` and `cycle_penalty` of spec/opcode_table.json. -/

/-- Row 0x. -/
def cycleRow0 (col : Nat) : CycleEntry :=
  match col with
  | 0x0 => cycleBoth 7 .none
  | 0x1 => cycleBoth 6 .none
  | 0x4 => cycleCmos 5 .none
  | 0x5 => cycleBoth 3 .none
  | 0x6 => cycleBoth 5 .none
  | 0x7 => cycleCmos 5 .none
  | 0x8 => cycleBoth 3 .none
  | 0x9 => cycleBoth 2 .none
  | 0xA => cycleBoth 2 .none
  | 0xC => cycleCmos 6 .none
  | 0xD => cycleBoth 4 .none
  | 0xE => cycleBoth 6 .none
  | 0xF => cycleCmos 5 .bitbranch
  | _ => cycleBoth 0 .none

/-- Row 1x. -/
def cycleRow1 (col : Nat) : CycleEntry :=
  match col with
  | 0x0 => cycleBoth 2 .branch
  | 0x1 => cycleBoth 5 .page
  | 0x2 => cycleCmos 5 .none
  | 0x4 => cycleCmos 5 .none
  | 0x5 => cycleBoth 4 .none
  | 0x6 => cycleBoth 6 .none
  | 0x7 => cycleCmos 5 .none
  | 0x8 => cycleBoth 2 .none
  | 0x9 => cycleBoth 4 .page
  | 0xA => cycleCmos 2 .none
  | 0xC => cycleCmos 6 .none
  | 0xD => cycleBoth 4 .page
  | 0xE => ⟨7, 6, .c02page⟩
  | 0xF => cycleCmos 5 .bitbranch
  | _ => cycleBoth 0 .none

/-- Row 2x. -/
def cycleRow2 (col : Nat) : CycleEntry :=
  match col with
  | 0x0 => cycleBoth 6 .none
  | 0x1 => cycleBoth 6 .none
  | 0x4 => cycleBoth 3 .none
  | 0x5 => cycleBoth 3 .none
  | 0x6 => cycleBoth 5 .none
  | 0x7 => cycleCmos 5 .none
  | 0x8 => cycleBoth 4 .none
  | 0x9 => cycleBoth 2 .none
  | 0xA => cycleBoth 2 .none
  | 0xC => cycleBoth 4 .none
  | 0xD => cycleBoth 4 .none
  | 0xE => cycleBoth 6 .none
  | 0xF => cycleCmos 5 .bitbranch
  | _ => cycleBoth 0 .none

/-- Row 3x. -/
def cycleRow3 (col : Nat) : CycleEntry :=
  match col with
  | 0x0 => cycleBoth 2 .branch
  | 0x1 => cycleBoth 5 .page
  | 0x2 => cycleCmos 5 .none
  | 0x4 => cycleCmos 4 .none
  | 0x5 => cycleBoth 4 .none
  | 0x6 => cycleBoth 6 .none
  | 0x7 => cycleCmos 5 .none
  | 0x8 => cycleBoth 2 .none
  | 0x9 => cycleBoth 4 .page
  | 0xA => cycleCmos 2 .none
  | 0xC => cycleCmos 4 .page
  | 0xD => cycleBoth 4 .page
  | 0xE => ⟨7, 6, .c02page⟩
  | 0xF => cycleCmos 5 .bitbranch
  | _ => cycleBoth 0 .none

/-- Row 4x. -/
def cycleRow4 (col : Nat) : CycleEntry :=
  match col with
  | 0x0 => cycleBoth 6 .none
  | 0x1 => cycleBoth 6 .none
  | 0x5 => cycleBoth 3 .none
  | 0x6 => cycleBoth 5 .none
  | 0x7 => cycleCmos 5 .none
  | 0x8 => cycleBoth 3 .none
  | 0x9 => cycleBoth 2 .none
  | 0xA => cycleBoth 2 .none
  | 0xC => cycleBoth 3 .none
  | 0xD => cycleBoth 4 .none
  | 0xE => cycleBoth 6 .none
  | 0xF => cycleCmos 5 .bitbranch
  | _ => cycleBoth 0 .none

/-- Row 5x. -/
def cycleRow5 (col : Nat) : CycleEntry :=
  match col with
  | 0x0 => cycleBoth 2 .branch
  | 0x1 => cycleBoth 5 .page
  | 0x2 => cycleCmos 5 .none
  | 0x5 => cycleBoth 4 .none
  | 0x6 => cycleBoth 6 .none
  | 0x7 => cycleCmos 5 .none
  | 0x8 => cycleBoth 2 .none
  | 0x9 => cycleBoth 4 .page
  | 0xA => cycleCmos 3 .none
  | 0xD => cycleBoth 4 .page
  | 0xE => ⟨7, 6, .c02page⟩
  | 0xF => cycleCmos 5 .bitbranch
  | _ => cycleBoth 0 .none

/-- Row 6x. -/
def cycleRow6 (col : Nat) : CycleEntry :=
  match col with
  | 0x0 => cycleBoth 6 .none
  | 0x1 => cycleBoth 6 .none
  | 0x4 => cycleCmos 3 .none
  | 0x5 => cycleBoth 3 .none
  | 0x6 => cycleBoth 5 .none
  | 0x7 => cycleCmos 5 .none
  | 0x8 => cycleBoth 4 .none
  | 0x9 => cycleBoth 2 .none
  | 0xA => cycleBoth 2 .none
  | 0xC => ⟨5, 6, .none⟩
  | 0xD => cycleBoth 4 .none
  | 0xE => cycleBoth 6 .none
  | 0xF => cycleCmos 5 .bitbranch
  | _ => cycleBoth 0 .none

/-- Row 7x. -/
def cycleRow7 (col : Nat) : CycleEntry :=
  match col with
  | 0x0 => cycleBoth 2 .branch
  | 0x1 => cycleBoth 5 .page
  | 0x2 => cycleCmos 5 .none
  | 0x4 => cycleCmos 4 .none
  | 0x5 => cycleBoth 4 .none
  | 0x6 => cycleBoth 6 .none
  | 0x7 => cycleCmos 5 .none
  | 0x8 => cycleBoth 2 .none
  | 0x9 => cycleBoth 4 .page
  | 0xA => cycleCmos 4 .none
  | 0xC => cycleCmos 6 .none
  | 0xD => cycleBoth 4 .page
  | 0xE => ⟨7, 6, .c02page⟩
  | 0xF => cycleCmos 5 .bitbranch
  | _ => cycleBoth 0 .none

/-- Row 8x. -/
def cycleRow8 (col : Nat) : CycleEntry :=
  match col with
  | 0x0 => cycleCmos 2 .branch
  | 0x1 => cycleBoth 6 .none
  | 0x4 => cycleBoth 3 .none
  | 0x5 => cycleBoth 3 .none
  | 0x6 => cycleBoth 3 .none
  | 0x7 => cycleCmos 5 .none
  | 0x8 => cycleBoth 2 .none
  | 0x9 => cycleCmos 2 .none
  | 0xA => cycleBoth 2 .none
  | 0xC => cycleBoth 4 .none
  | 0xD => cycleBoth 4 .none
  | 0xE => cycleBoth 4 .none
  | 0xF => cycleCmos 5 .bitbranch
  | _ => cycleBoth 0 .none

/-- Row 9x. -/
def cycleRow9 (col : Nat) : CycleEntry :=
  match col with
  | 0x0 => cycleBoth 2 .branch
  | 0x1 => cycleBoth 6 .none
  | 0x2 => cycleCmos 5 .none
  | 0x4 => cycleBoth 4 .none
  | 0x5 => cycleBoth 4 .none
  | 0x6 => cycleBoth 4 .none
  | 0x7 => cycleCmos 5 .none
  | 0x8 => cycleBoth 2 .none
  | 0x9 => cycleBoth 5 .none
  | 0xA => cycleBoth 2 .none
  | 0xC => cycleCmos 4 .none
  | 0xD => cycleBoth 5 .none
  | 0xE => cycleCmos 5 .none
  | 0xF => cycleCmos 5 .bitbranch
  | _ => cycleBoth 0 .none

/-- Row Ax. -/
def cycleRowA (col : Nat) : CycleEntry :=
  match col with
  | 0x0 => cycleBoth 2 .none
  | 0x1 => cycleBoth 6 .none
  | 0x2 => cycleBoth 2 .none
  | 0x4 => cycleBoth 3 .none
  | 0x5 => cycleBoth 3 .none
  | 0x6 => cycleBoth 3 .none
  | 0x7 => cycleCmos 5 .none
  | 0x8 => cycleBoth 2 .none
  | 0x9 => cycleBoth 2 .none
  | 0xA => cycleBoth 2 .none
  | 0xC => cycleBoth 4 .none
  | 0xD => cycleBoth 4 .none
  | 0xE => cycleBoth 4 .none
  | 0xF => cycleCmos 5 .bitbranch
  | _ => cycleBoth 0 .none

/-- Row Bx. -/
def cycleRowB (col : Nat) : CycleEntry :=
  match col with
  | 0x0 => cycleBoth 2 .branch
  | 0x1 => cycleBoth 5 .page
  | 0x2 => cycleCmos 5 .none
  | 0x4 => cycleBoth 4 .none
  | 0x5 => cycleBoth 4 .none
  | 0x6 => cycleBoth 4 .none
  | 0x7 => cycleCmos 5 .none
  | 0x8 => cycleBoth 2 .none
  | 0x9 => cycleBoth 4 .page
  | 0xA => cycleBoth 2 .none
  | 0xC => cycleBoth 4 .page
  | 0xD => cycleBoth 4 .page
  | 0xE => cycleBoth 4 .page
  | 0xF => cycleCmos 5 .bitbranch
  | _ => cycleBoth 0 .none

/-- Row Cx. -/
def cycleRowC (col : Nat) : CycleEntry :=
  match col with
  | 0x0 => cycleBoth 2 .none
  | 0x1 => cycleBoth 6 .none
  | 0x4 => cycleBoth 3 .none
  | 0x5 => cycleBoth 3 .none
  | 0x6 => cycleBoth 5 .none
  | 0x7 => cycleCmos 5 .none
  | 0x8 => cycleBoth 2 .none
  | 0x9 => cycleBoth 2 .none
  | 0xA => cycleBoth 2 .none
  | 0xC => cycleBoth 4 .none
  | 0xD => cycleBoth 4 .none
  | 0xE => cycleBoth 6 .none
  | 0xF => cycleCmos 5 .bitbranch
  | _ => cycleBoth 0 .none

/-- Row Dx. -/
def cycleRowD (col : Nat) : CycleEntry :=
  match col with
  | 0x0 => cycleBoth 2 .branch
  | 0x1 => cycleBoth 5 .page
  | 0x2 => cycleCmos 5 .none
  | 0x5 => cycleBoth 4 .none
  | 0x6 => cycleBoth 6 .none
  | 0x7 => cycleCmos 5 .none
  | 0x8 => cycleBoth 2 .none
  | 0x9 => cycleBoth 4 .page
  | 0xA => cycleCmos 3 .none
  | 0xD => cycleBoth 4 .page
  | 0xE => cycleBoth 7 .none
  | 0xF => cycleCmos 5 .bitbranch
  | _ => cycleBoth 0 .none

/-- Row Ex. -/
def cycleRowE (col : Nat) : CycleEntry :=
  match col with
  | 0x0 => cycleBoth 2 .none
  | 0x1 => cycleBoth 6 .none
  | 0x4 => cycleBoth 3 .none
  | 0x5 => cycleBoth 3 .none
  | 0x6 => cycleBoth 5 .none
  | 0x7 => cycleCmos 5 .none
  | 0x8 => cycleBoth 2 .none
  | 0x9 => cycleBoth 2 .none
  | 0xA => cycleBoth 2 .none
  | 0xC => cycleBoth 4 .none
  | 0xD => cycleBoth 4 .none
  | 0xE => cycleBoth 6 .none
  | 0xF => cycleCmos 5 .bitbranch
  | _ => cycleBoth 0 .none

/-- Row Fx. -/
def cycleRowF (col : Nat) : CycleEntry :=
  match col with
  | 0x0 => cycleBoth 2 .branch
  | 0x1 => cycleBoth 5 .page
  | 0x2 => cycleCmos 5 .none
  | 0x5 => cycleBoth 4 .none
  | 0x6 => cycleBoth 6 .none
  | 0x7 => cycleCmos 5 .none
  | 0x8 => cycleBoth 2 .none
  | 0x9 => cycleBoth 4 .page
  | 0xA => cycleCmos 4 .none
  | 0xD => cycleBoth 4 .page
  | 0xE => cycleBoth 7 .none
  | 0xF => cycleCmos 5 .bitbranch
  | _ => cycleBoth 0 .none

/-- The default entry of an opcode. -/
def defaultCycles (op : Byte) : CycleEntry :=
  match op.toNat / 16 with
  | 0x0 => cycleRow0 (op.toNat % 16)
  | 0x1 => cycleRow1 (op.toNat % 16)
  | 0x2 => cycleRow2 (op.toNat % 16)
  | 0x3 => cycleRow3 (op.toNat % 16)
  | 0x4 => cycleRow4 (op.toNat % 16)
  | 0x5 => cycleRow5 (op.toNat % 16)
  | 0x6 => cycleRow6 (op.toNat % 16)
  | 0x7 => cycleRow7 (op.toNat % 16)
  | 0x8 => cycleRow8 (op.toNat % 16)
  | 0x9 => cycleRow9 (op.toNat % 16)
  | 0xA => cycleRowA (op.toNat % 16)
  | 0xB => cycleRowB (op.toNat % 16)
  | 0xC => cycleRowC (op.toNat % 16)
  | 0xD => cycleRowD (op.toNat % 16)
  | 0xE => cycleRowE (op.toNat % 16)
  | _ => cycleRowF (op.toNat % 16)

/-- The entry of `CYCLE_TABLE` (R185): the configuration's own where it has one, else the default. -/
def cycleEntry (cfg : Config) (op : Byte) : CycleEntry := (cfg.cycleTable.lookup op).getD (defaultCycles op)

/-- What the cost of one execution depends on beside the opcode: `cross` and `taken` of R186, and whether it was an ADC or
SBC executed with `P.D = 1` (R188). -/
structure Timing where
  cross   : Bool := false
  taken   : Bool := false
  decimal : Bool := false
  deriving DecidableEq, Repr, Inhabited

/-- `base(MODEL, op)` (R185). -/
def baseCycles (cfg : Config) (op : Byte) : Nat :=
  match cfg.model with
  | .nmos6502 => (cycleEntry cfg op).nmos
  | .cmos65c02 => (cycleEntry cfg op).cmos

/-- `penalty(op, cross, taken)` (R186). -/
def penaltyCycles (cfg : Config) (op : Byte) (t : Timing) : Nat :=
  match (cycleEntry cfg op).penalty with
  | .none => 0
  | .page => if t.cross then 1 else 0
  | .c02page => if t.cross && decide (cfg.model = .cmos65c02) then 1 else 0
  | .branch | .bitbranch => if t.taken then (if t.cross then 2 else 1) else 0

/-- `decimalExtra` (R188). -/
def decimalExtra (cfg : Config) (t : Timing) : Nat :=
  if t.decimal && decide (cfg.model = .cmos65c02) && cfg.c02DecimalExtraCycle then 1 else 0

/-- The cost of one instruction (R185). -/
def instrCost (cfg : Config) (op : Byte) (t : Timing) : Nat :=
  baseCycles cfg op + penaltyCycles cfg op t + decimalExtra cfg t

end Sys2Proof.Machine
end

