-- ==== Sys2Proof/Machine/Flags.lean ====
section
/-! DEFINITION. The flag byte P (10_state.md R35, R36), the flag updater (40_dispatch.md R184) and the ALU functions with
the flags they compute (R189 to R194; 43_logic_shift_bit.md R244 to R252). Functions of the flag byte and the operands
alone; what they leave of P is what they do not name. -/

namespace Sys2Proof.Machine

/-! ## The flag byte (R35) -/

/-- The bits of P; `u` is bit 5, which has no name in the spec. -/
inductive Flag
  | c
  | z
  | i
  | d
  | b
  | u
  | v
  | n
  deriving DecidableEq, Repr

/-- The masks of R35. -/
def Flag.mask : Flag → Byte
  | .c => 0x01
  | .z => 0x02
  | .i => 0x04
  | .d => 0x08
  | .b => 0x10
  | .u => 0x20
  | .v => 0x40
  | .n => 0x80

/-- Read one flag of P (R15). -/
def flag (p : Byte) (f : Flag) : Bool := p &&& f.mask != 0

/-- `P.f <- v`, that bit only (R15). -/
def setFlag (p : Byte) (f : Flag) (v : Bool) : Byte := if v then p ||| f.mask else p &&& ~~~f.mask

/-- A carry as the number the pseudocode adds. -/
def bitNat (c : Bool) : Nat := if c then 1 else 0

/-- `SetNZ(v)` (R184). -/
def setNZ (p v : Byte) : Byte := setFlag (setFlag p .z (v == 0)) .n v.msb

/-! ## Binary and decimal arithmetic (R189 to R193) -/

/-- `AddBin(a, m, c) = (r, C, V)` (R189). -/
def addBin (a m : Byte) (c : Bool) : Byte × Bool × Bool :=
  let s := a.toNat + m.toNat + bitNat c
  let r := BitVec.ofNat 8 s
  (r, decide (256 ≤ s), (a ^^^ r) &&& (m ^^^ r) &&& 0x80 != 0)

/-- `SubBin(a, m, c) = AddBin(a, NOT8(m), c)` (R190). -/
def subBin (a m : Byte) (c : Bool) : Byte × Bool × Bool := addBin a (~~~m) c

/-- `IsBCD(v)` (R191). -/
def isBCD (v : Byte) : Bool := decide (v.toNat / 16 ≤ 9) && decide (v.toNat % 16 ≤ 9)

/-- `dec(v)` (R191). -/
def bcdValue (v : Byte) : Nat := 10 * (v.toNat / 16) + v.toNat % 16

/-- `enc(n)` (R191). -/
def bcdEncode (n : Nat) : Byte := BitVec.ofNat 8 (16 * (n / 10) + n % 10)

/-- `AddBcd(a, m, c) = (r, C)`, or none where it raises `InvalidBCD(a, m)` (R192). -/
def addBcd (a m : Byte) (c : Bool) : Option (Byte × Bool) :=
  if isBCD a && isBCD m then
    let n := bcdValue a + bcdValue m + bitNat c
    some (bcdEncode (n % 100), decide (100 ≤ n))
  else none

/-- `SubBcd(a, m, c) = (r, C)`, or none where it raises `InvalidBCD(a, m)` (R193). -/
def subBcd (a m : Byte) (c : Bool) : Option (Byte × Bool) :=
  if isBCD a && isBCD m then
    let n : Int := bcdValue a - bcdValue m - (1 - bitNat c)
    if n < 0 then some (bcdEncode (n + 100).toNat, false) else some (bcdEncode n.toNat, true)
  else none

/-- `Compare(r, m)` as a function of P (R194). -/
def compareFlags (p r m : Byte) : Byte :=
  if r = m then setFlag (setFlag (setFlag p .z true) .c true) .n false
  else setFlag (setFlag (setFlag p .c (decide (m.toNat ≤ r.toNat))) .z false) .n (r - m).msb

/-! ## Bit tests, shifts, increments: a new value and a new P -/

/-- `BIT` with a memory operand (R244). -/
def bitFlags (p a m : Byte) : Byte :=
  setFlag (setFlag (setFlag p .z (a &&& m == 0)) .n (m.getLsbD 7)) .v (m.getLsbD 6)

/-- `BIT #imm`, and the flag of `TRB` and `TSB` (R244, R249, R250): Z alone. -/
def testFlags (p a m : Byte) : Byte := setFlag p .z (a &&& m == 0)

/-- `INC` (R226). -/
def incValue (p v : Byte) : Byte × Byte := (v + 1, setNZ p (v + 1))

/-- `DEC` (R227). -/
def decValue (p v : Byte) : Byte × Byte := (v - 1, setNZ p (v - 1))

/-- `ASL` (R245): `c <- v[7]; r <- wrap8(v * 2)`. -/
def aslValue (p v : Byte) : Byte × Byte :=
  let r := v <<< 1
  (r, setNZ (setFlag p .c (v.getLsbD 7)) r)

/-- `LSR` (R246): `c <- v[0]; r <- v div 2`. -/
def lsrValue (p v : Byte) : Byte × Byte :=
  let r := v >>> 1
  (r, setNZ (setFlag p .c (v.getLsbD 0)) r)

/-- `ROL` (R247): `c <- v[7]; r <- wrap8(v * 2 + P.C)`. -/
def rolValue (p v : Byte) : Byte × Byte :=
  let r := v <<< 1 ||| (if flag p .c then 0x01 else 0)
  (r, setNZ (setFlag p .c (v.getLsbD 7)) r)

/-- `ROR` (R248): `c <- v[0]; r <- (v div 2) + 128 * P.C`. -/
def rorValue (p v : Byte) : Byte × Byte :=
  let r := v >>> 1 ||| (if flag p .c then 0x80 else 0)
  (r, setNZ (setFlag p .c (v.getLsbD 0)) r)

/-- `TRB` (R249). -/
def trbValue (a p m : Byte) : Byte × Byte := (m &&& ~~~a, testFlags p a m)

/-- `TSB` (R250). -/
def tsbValue (a p m : Byte) : Byte × Byte := (m ||| a, testFlags p a m)

/-- The byte `2^b`. -/
def bitMask (b : Fin 8) : Byte := 1 <<< b.val

/-- `RMBb` (R251): no flag. -/
def rmbValue (b : Fin 8) (p m : Byte) : Byte × Byte := (m &&& ~~~bitMask b, p)

/-- `SMBb` (R252): no flag. -/
def smbValue (b : Fin 8) (p m : Byte) : Byte × Byte := (m ||| bitMask b, p)

end Sys2Proof.Machine
end

