-- ==== Sys2Proof/Machine/Memory.lean ====
section
/-! DEFINITION. Physical storage and the four resolvers (20_memory.md R64 to R93): one array as a list of cells in
canonical form, the arrays of a backend, what a valid construction is (60_exceptions.md R316), and the pure function from
a logical address and the current control bytes to one physical byte. -/

namespace Sys2Proof

/-- One array: (index, value) pairs. -/
abbrev Cells (w : Nat) := List (Nat × BitVec w)

/-- What an unlisted index reads as (log entry 3). -/
def unlisted (w : Nat) : BitVec w := 0

/-- The value at an index. -/
def Cells.read {w : Nat} : Cells w → Nat → BitVec w
  | [], _ => unlisted w
  | (k, v) :: rest, j => if k = j then v else Cells.read rest j

/-- Remove every entry at an index. -/
def Cells.erase {w : Nat} : Cells w → Nat → Cells w
  | [], _ => []
  | (k, v) :: rest, j => if k = j then Cells.erase rest j else (k, v) :: Cells.erase rest j

/-- Put an entry at its place in the rising order, over the entry already there. -/
def Cells.insert {w : Nat} : Cells w → Nat → BitVec w → Cells w
  | [], j, v => [(j, v)]
  | (k, u) :: rest, j, v =>
    if j < k then (j, v) :: (k, u) :: rest
    else if j = k then (j, v) :: rest
    else (k, u) :: Cells.insert rest j v

/-- Write a value at an index, keeping the canonical form. -/
def Cells.write {w : Nat} (c : Cells w) (j : Nat) (v : BitVec w) : Cells w :=
  if v = unlisted w then Cells.erase c j else Cells.insert c j v

/-- Indices strictly rising from `lo` up, and no entry equal to what an unlisted index reads as. -/
def Cells.wfFrom {w : Nat} (lo : Nat) : Cells w → Bool
  | [] => true
  | (k, v) :: rest => decide (lo ≤ k) && decide (v ≠ unlisted w) && Cells.wfFrom (k + 1) rest

/-- Every listed index lies below `size`. -/
def Cells.below {w : Nat} (size : Nat) (c : Cells w) : Bool := c.all fun e => decide (e.1 < size)

/-- The array of that name. -/
def Arrays.get {w : Nat} (m : Arrays w) : PhysArray → Cells w
  | .lin => m.lin
  | .low => m.low
  | .ramb => m.ramb
  | .romb => m.romb
  | .base => m.base
  | .ind => m.ind
  | .sys => m.sys
  | .io => m.io
  | .lut => m.lut
  | .ctrl => m.ctrl

/-- Replace the array of that name. -/
def Arrays.set {w : Nat} (m : Arrays w) (arr : PhysArray) (c : Cells w) : Arrays w :=
  match arr with
  | .lin => { m with lin := c }
  | .low => { m with low := c }
  | .ramb => { m with ramb := c }
  | .romb => { m with romb := c }
  | .base => { m with base := c }
  | .ind => { m with ind := c }
  | .sys => { m with sys := c }
  | .io => { m with io := c }
  | .lut => { m with lut := c }
  | .ctrl => { m with ctrl := c }

/-- The value at a physical byte. -/
def Arrays.read {w : Nat} (m : Arrays w) (ph : Phys) : BitVec w := Cells.read (m.get ph.array) ph.index

/-- Write the value at a physical byte. -/
def Arrays.write {w : Nat} (m : Arrays w) (ph : Phys) (v : BitVec w) : Arrays w :=
  m.set ph.array (Cells.write (m.get ph.array) ph.index v)

/-- Every storage array of R45, in its order. -/
def PhysArray.all : List PhysArray := [.lin, .low, .ramb, .romb, .base, .ind, .sys, .io, .lut, .ctrl]

/-- Every array is in canonical form. -/
def Arrays.wf {w : Nat} (m : Arrays w) : Bool := PhysArray.all.all fun arr => Cells.wfFrom 0 (m.get arr)

/-- The canonical form of memory: in every array the indices rise strictly and no entry equals what an unlisted index
reads as. -/
def Memory.wf (m : Memory) : Bool := Arrays.wf m

namespace Machine

/-! ## Sizes (R45, R70, R80) -/

/-- `S = min(LINEAR_SIZE_CFG, 65536)` (R70). -/
def linearSize (sizeCfg : Nat) : Nat := min sizeCfg 65536

/-- The effective sector bits `SB` (R80). -/
def sectorBits (cfg : Int) : Nat := if 1 ≤ cfg ∧ cfg ≤ 8 then cfg.toNat else 8

/-- The number of bytes of each array of a backend (R45); an array the backend does not have has none. -/
def Backend.size : Backend → PhysArray → Nat
  | .linear sizeCfg, .lin => linearSize sizeCfg
  | .bankSwitched _ _, .low => 0xA000
  | .bankSwitched ramBanks _, .ramb => ramBanks * 0x2000
  | .bankSwitched _ romBanks, .romb => romBanks * 0x4000
  | .trackSector _ _ _ _, .base => 0x10000
  | .trackSector sectorBitsCfg _ _ _, .ind => 64 * 2 ^ sectorBits sectorBitsCfg * 256
  | .mmu sysmemPages, .sys => sysmemPages * 0x2000
  | .mmu _, .io => 4 * 0x2000
  | .mmu _, .lut => 32
  | .mmu _, .ctrl => 2
  | _, _ => 0

/-- Every listed byte lies inside its array. -/
def Arrays.within {w : Nat} (b : Backend) (m : Arrays w) : Bool :=
  PhysArray.all.all fun arr => Cells.below (Backend.size b arr) (m.get arr)

/-! ## Valid construction (R316) -/

/-- What a `ConfigError` of construction names, or none for a valid configuration: a size of 0 (R70), a count outside its
legal range (R11), control bytes that coincide or lie in the window (R84). Which one is named where several are invalid, the
count of RAM banks before that of ROM banks, is the model's (DESIGN CHOICE, log entry 20). -/
def Backend.check : Backend → Option ConfigParam
  | .linear sizeCfg => if sizeCfg = 0 then some .linearSize else none
  | .bankSwitched ramBanks romBanks =>
    if ramBanks = 0 ∨ 256 < ramBanks then some .ramBanks
    else if romBanks = 0 ∨ 32 < romBanks then some .romBanks
    else none
  | .trackSector _ trackAddr sectorAddr windowPage =>
    if trackAddr = sectorAddr ∨ hi8 trackAddr = windowPage ∨ hi8 sectorAddr = windowPage then
      some .trackSectorAddresses
    else none
  | .mmu sysmemPages => if sysmemPages = 0 ∨ 256 < sysmemPages then some .sysmemPages else none

/-- Construction (R360) followed by `init` (R361), joined in one (DESIGN CHOICE, log entry 22: the spec gives no value of SP
between the two). -/
def construct (cfg : Config) : Except HostError State :=
  match Backend.check cfg.backend with
  | some p => .error (.configError p)
  | none => .ok (State.constructed cfg)

/-! ## Control bytes (R50 to R55) -/

/-- The control bytes of a backend (R50 to R55): what resolution depends on. -/
def isControlByte : Backend → Phys → Bool
  | .linear _, _ => false
  | .bankSwitched _ _, ph => decide (ph = ⟨.low, 0⟩) || decide (ph = ⟨.low, 1⟩)
  | .trackSector _ t s _, ph => decide (ph = ⟨.base, t.toNat⟩) || decide (ph = ⟨.base, s.toNat⟩)
  | .mmu _, ph => decide (ph.array = .ctrl) || decide (ph.array = .lut)

/-- RAM_SEL = `LOW[0]` (R50). -/
def ramSel (m : Memory) : Nat := (m.read ⟨.low, 0⟩).toNat

/-- `LOW[1] AND 0x1F` (R51). -/
def romSel (m : Memory) : Nat := (m.read ⟨.low, 1⟩ &&& 0x1F).toNat

/-- MEM_CTRL (R53). -/
def memCtrl (m : Memory) : Byte := m.read ⟨.ctrl, 0⟩

/-- EDIT_EN, bit 7 of MEM_CTRL (R53). -/
def editEn (m : Memory) : Bool := (memCtrl m).getLsbD 7

/-- EDIT_LUT, bits 5:4 of MEM_CTRL (R53). -/
def editLut (m : Memory) : Nat := ((memCtrl m).extractLsb' 4 2).toNat

/-- ACT_LUT, bits 1:0 of MEM_CTRL (R53). -/
def actLut (m : Memory) : Nat := ((memCtrl m).extractLsb' 0 2).toNat

/-- IO_CTRL (R54). -/
def ioCtrl (m : Memory) : Byte := m.read ⟨.ctrl, 1⟩

/-- IO_DISABLE, bit 2 of IO_CTRL (R54). -/
def ioDisable (m : Memory) : Bool := (ioCtrl m).getLsbD 2

/-- IO_PAGE, bits 1:0 of IO_CTRL (R54). -/
def ioPage (m : Memory) : Nat := ((ioCtrl m).extractLsb' 0 2).toNat

/-- `LUT[k][r]` (R55). -/
def lutEntry (m : Memory) (k r : Nat) : Nat := (m.read ⟨.lut, k * 8 + r⟩).toNat

/-! ## The resolvers (R64) -/

/-- R71. -/
def resolveLinear (sizeCfg : Nat) (a : Addr) : Option Phys :=
  if a.toNat < linearSize sizeCfg then some ⟨.lin, a.toNat⟩ else none

/-- R73 to R77. -/
def resolveBankSwitched (ramBanks romBanks : Nat) (m : Memory) (a : Addr) : Option Phys :=
  if a.toNat < 0xA000 then some ⟨.low, a.toNat⟩
  else if a.toNat ≤ 0xBFFF then
    if ramSel m < ramBanks then some ⟨.ramb, ramSel m * 0x2000 + (a.toNat - 0xA000)⟩ else none
  else if romSel m < romBanks then some ⟨.romb, romSel m * 0x4000 + (a.toNat - 0xC000)⟩
  else none

/-- The index of R82 in `IND`. -/
def trackSectorIndex (sb : Nat) (track sector : Byte) (offset : Byte) : Nat :=
  (((((track &&& 0x3F).toNat <<< sb) ||| (sector.toNat &&& (2 ^ sb - 1))) <<< 8) ||| offset.toNat)

/-- R82, R83. -/
def resolveTrackSector (sectorBitsCfg : Int) (trackAddr sectorAddr : Addr) (windowPage : Byte) (m : Memory)
    (a : Addr) : Option Phys :=
  if hi8 a = windowPage then
    some ⟨.ind, trackSectorIndex (sectorBits sectorBitsCfg) (m.read ⟨.base, trackAddr.toNat⟩)
      (m.read ⟨.base, sectorAddr.toNat⟩) (lo8 a)⟩
  else some ⟨.base, a.toNat⟩

/-- R86, the first matching line deciding; region `a[15:13]`, offset `a[12:0]` (R90). -/
def resolveMmu (sysmemPages : Nat) (m : Memory) (a : Addr) : Option Phys :=
  if a = 0x0000 then some ⟨.ctrl, 0⟩
  else if a = 0x0001 then some ⟨.ctrl, 1⟩
  else if 0x0008 ≤ a.toNat ∧ a.toNat ≤ 0x000F ∧ editEn m = true then
    some ⟨.lut, editLut m * 8 + (a.toNat - 0x0008)⟩
  else if 0xC000 ≤ a.toNat ∧ a.toNat ≤ 0xDFFF ∧ ioDisable m = false then
    some ⟨.io, ioPage m * 0x2000 + (a.toNat - 0xC000)⟩
  else
    let page := lutEntry m (actLut m) (a.toNat / 0x2000)
    if page < sysmemPages then some ⟨.sys, page * 0x2000 + a.toNat % 0x2000⟩ else none

/-- `resolve(a, ctrl)` of R64 under the control bytes that `m` holds; none is `OutOfRange`. -/
def resolve (b : Backend) (m : Memory) (a : Addr) : Option Phys :=
  match b with
  | .linear sizeCfg => resolveLinear sizeCfg a
  | .bankSwitched ramBanks romBanks => resolveBankSwitched ramBanks romBanks m a
  | .trackSector cfg trackAddr sectorAddr windowPage =>
    resolveTrackSector cfg trackAddr sectorAddr windowPage m a
  | .mmu sysmemPages => resolveMmu sysmemPages m a

end Machine
end Sys2Proof
end

