-- ==== Sys2Proof/Machine/Ops.lean ====
section
/-! DEFINITION. The named operations over memory and registers that every meaning uses: one `load` and one `store` through
the wrapper (20_memory.md R61 to R66, R100 to R104), fetching (40_dispatch.md R161, R164), the stack (R181 to R183), taking a
fault (60_exceptions.md R310), halting (R160, R195) and the end of an instruction with its cost (R160, R163, R185). -/

namespace Sys2Proof.Machine

/-- A piece of an instruction: it goes on with a value and a state, or raises a fault in the state reached so far, where
"transactions already issued stay done, nothing after it happens" (R18). -/
abbrev Run (α : Type) := EStateM FaultRecord State α

/-! ## Register and port updates -/

/-- `A <- v`. -/
def State.setA (s : State) (v : Byte) : State := { s with a := v }

/-- `X <- v`. -/
def State.setX (s : State) (v : Byte) : State := { s with x := v }

/-- `Y <- v`. -/
def State.setY (s : State) (v : Byte) : State := { s with y := v }

/-- `SP <- v`. -/
def State.setSp (s : State) (v : Byte) : State := { s with sp := v }

/-- `P <- v`. -/
def State.setP (s : State) (v : Byte) : State := { s with p := v }

/-- `PC <- v`. -/
def State.setPc (s : State) (v : Addr) : State := { s with pc := v }

/-- `P.f <- v`. -/
def State.putFlag (s : State) (f : Flag) (v : Bool) : State := s.setP (setFlag s.p f v)

/-- `A <- v; SetNZ(v)`. -/
def State.loadA (s : State) (v : Byte) : State := (s.setA v).setP (setNZ s.p v)

/-- `X <- v; SetNZ(v)`. -/
def State.loadX (s : State) (v : Byte) : State := (s.setX v).setP (setNZ s.p v)

/-- `Y <- v; SetNZ(v)`. -/
def State.loadY (s : State) (v : Byte) : State := (s.setY v).setP (setNZ s.p v)

/-- `CYCLES <- wrap64(CYCLES + n)` (R40, R160). -/
def State.addCycles (s : State) (n : Nat) : State := { s with cycles := s.cycles + BitVec.ofNat 64 n }

/-- A result given to the host. -/
def State.reply (s : State) (r : HostReply) : State := { s with replies := s.replies ++ [r] }

/-! ## The backend (R63 to R66) -/

/-- `resolve(a, ctrl)` under the current control bytes (R64, R67). -/
def State.resolve (s : State) (a : Addr) : Option Phys := Machine.resolve s.cfg.backend s.mem a

/-- The counter of one physical byte rises by 1, modulo 2^64 (R63). -/
def State.count (s : State) (ph : Phys) : State :=
  { s with counts := s.counts.write ph (s.counts.read ph + 1) }

/-- The effect of one `store` that resolves to `ph` (R66). -/
def State.storeAt (s : State) (ph : Phys) (v : Byte) : State :=
  { s.count ph with mem := s.mem.write ph v }

/-- The byte a `load(a)` would return, with no transaction (0 where `a` is out of range). -/
def State.peek (s : State) (a : Addr) : Byte :=
  match s.resolve a with
  | some ph => s.mem.read ph
  | none => 0

/-- A load of `a` resolves to a physical byte (R65). -/
def State.readable (s : State) (a : Addr) : Bool := (s.resolve a).isSome

/-- The state after loads of `addrs`, in order: one counter for each, and nothing else (R63, R65). -/
def State.counted (s : State) (addrs : List Addr) : State :=
  { s with
    counts := addrs.foldl (fun c a =>
      match s.resolve a with
      | some ph => c.write ph (c.read ph + 1)
      | none => c) s.counts }

/-- `backend.load(a)` (R65); loads pass the wrapper unmodified (R101). -/
def memRead (a : Addr) : Run Byte := fun s =>
  match s.resolve a with
  | some ph => .ok (s.mem.read ph) (s.count ph)
  | none => .error (.outOfRange a .load) s

/-- `backend.store(a, v)` (R66). -/
def backendStore (a : Addr) (v : Byte) : Run Unit := fun s =>
  match s.resolve a with
  | some ph => .ok () (s.storeAt ph v)
  | none => .error (.outOfRange a .store) s

/-! ## The wrapper and the sinks (R100 to R104) -/

/-- The sink registered at an address (R100). -/
def State.sinkAt (s : State) (a : Addr) : Option Nat := s.cfg.sinks.lookup a

/-- A store to `a` reaches the backend and resolves to a physical byte (R66, R102). -/
def State.storable (s : State) (a : Addr) : Bool := (s.sinkAt a).isNone && s.readable a

/-- One thing a sink does: a backend access is an ordinary counted access (R103), and one that is out of range changes
nothing (R65, R66), what the sink makes of it being the sink's; a byte handed on is a call on the sink port. -/
def State.sinkAccess (s : State) (acc : SinkAccess) : State :=
  match acc with
  | .load a =>
    match s.resolve a with
    | some ph => s.count ph
    | none => s
  | .store a v =>
    match s.resolve a with
    | some ph => s.storeAt ph v
    | none => s
  | .handOn sink a v => { s with sinkCalls := s.sinkCalls ++ [.write sink a v] }

/-- `SINKS[a].write(v)` (R102): the sink is an external agent, so the accesses it makes and whether it fails are a free
value (R103, log entry 6); a failure raises `SinkFailure` (R104, 60_exceptions.md R314). -/
def sinkWrite (sink : Nat) (a : Addr) (v : Byte) : Run Unit := fun s =>
  let called := { s with draws := s.draws + 1, sinkCalls := s.sinkCalls ++ [.write sink a v] }
  let after := (Config.sinkEffect s.draws).accesses.foldl State.sinkAccess called
  if (Config.sinkEffect s.draws).fails then .error (.sinkFailure a v) after else .ok () after

/-- `wrapper.store(a, v)` (R102). -/
def memWrite (a : Addr) (v : Byte) : Run Unit := fun s =>
  match s.sinkAt a with
  | some sink => sinkWrite sink a v s
  | none => backendStore a v s

/-! ## Fetching (R161, R164) -/

/-- `FetchByte()` (R164), and the opcode fetch of R161. -/
def fetchByte : Run Byte := do
  let s ← get
  let b ← memRead s.pc
  modify fun s => s.setPc (s.pc + 1)
  return b

/-- The fetch of an operand byte whose value `b` the decoder has read: the same counted transaction and the same advance
of PC (R164). On every path of `step` the byte fetched is `b`. -/
def fetchOperand (b : Byte) : Run Byte := do
  let _ ← fetchByte
  return b

/-- The fetch of a 16-bit operand, low byte first (R142, R169). -/
def fetchWord (a : Addr) : Run Addr := do
  let _ ← fetchByte
  let _ ← fetchByte
  return a

/-- The three bytes from PC on, as decoding sees them. -/
def State.fetchWindow (s : State) : List Byte := [s.peek s.pc, s.peek (s.pc + 1), s.peek (s.pc + 2)]

/-! ## The stack (R181 to R183) -/

/-- `0x0100 + SP` (R181). -/
def stackAddr (sp : Byte) : Addr := w16 0x01 sp

/-- `Push(v)` (R182). -/
def push (v : Byte) : Run Unit := do
  let s ← get
  memWrite (stackAddr s.sp) v
  modify fun s => s.setSp (s.sp - 1)

/-- `Pop()` (R183). -/
def pop : Run Byte := do
  modify fun s => s.setSp (s.sp + 1)
  let s ← get
  memRead (stackAddr s.sp)

/-! ## Taking a fault, halting, completing -/

/-- The one way an execution fault is taken (60_exceptions.md R310): FAULT is set, the status becomes `Faulted`, `run` returns
the failure, nothing is pushed and no cost is added; memory and counters keep what the transactions before the fault did,
and A, X, Y, SP, P, PC and CYCLES are unspecified, each a free value (10_state.md R58). -/
def takeFault (f : FaultRecord) (s : State) : State :=
  { s with
    a       := Config.freeByte s.draws
    x       := Config.freeByte (s.draws + 1)
    y       := Config.freeByte (s.draws + 2)
    sp      := Config.freeByte (s.draws + 3)
    p       := Config.freeByte (s.draws + 4)
    pc      := Config.freeAddr (s.draws + 5)
    cycles  := Config.freeCount (s.draws + 6)
    status  := .faulted
    fault   := some f
    draws   := s.draws + 7
    replies := s.replies ++ [.failure f] }

/-- `halt` (R17, R160, R195): the run ends normally, and `run` returns. -/
def State.haltRun (s : State) : State := { s.reply .ok with status := .halted }

/-- The end of an instruction (R160, R163): its cost is added to CYCLES, or the fault it raised is taken. -/
def runInstr (op : Byte) (body : Run Timing) (s : State) : StepResult :=
  match body s with
  | .ok t s' => .next (s'.addCycles (instrCost s'.cfg op t))
  | .error f s' => .next (takeFault f s')

/-- An instruction whose opcode has an entry on `CMOS65C02` only (R146): on `NMOS6502` its opcode is illegal (R162,
60_exceptions.md R311). -/
def cmosOnly (op : Byte) (meaning : State → StepResult) (s : State) : StepResult :=
  match s.cfg.model with
  | .cmos65c02 => meaning s
  | .nmos6502 => .next (takeFault (.illegalOpcode op (s.pc - 1)) s)

/-! ## Placing a program -/

/-- `run`'s writes before the first fetch (10_state.md R57). -/
def State.startRun (s : State) (start : Addr) : State :=
  { s with pc := start, cycles := 0, fault := none, status := .running }

/-- Put a byte where a load of `a` finds it, with no transaction. -/
def State.poke (s : State) (a : Addr) (v : Byte) : State :=
  match s.resolve a with
  | some ph => { s with mem := s.mem.write ph v }
  | none => s

/-- Put bytes at consecutive addresses from `a` on. -/
def State.pokeAll (s : State) (a : Addr) : List Byte → State
  | [] => s
  | v :: rest => (s.poke a v).pokeAll (a + 1) rest

/-- A first instruction put where the next step fetches it: its bytes from PC on and, unless a run is in progress, `run(PC)`
begun (log entry 4). -/
def State.placeFirst (s : State) (bytes : List Byte) : State :=
  match s.status with
  | .running => s.pokeAll s.pc bytes
  | .idle | .halted | .faulted | .closed => (s.pokeAll s.pc bytes).startRun s.pc

end Sys2Proof.Machine
end

