-- ==== Sys2Proof/Machine/Statistics.lean ====
section
/-! DEFINITION. Access statistics (20_memory.md R119) and the hotspot-threshold engine (60_exceptions.md R340 to R348). -/

namespace Sys2Proof.Machine

/-- `getStatistics(a)` (R119): the counter of the physical byte mapped at `a`, or none where `a` is out of range. -/
def State.statistics (s : State) (a : Addr) : Option Count := (s.resolve a).map s.counts.read

/-- The addresses of an inclusive range in increasing order (R340). -/
def addrRange (first last : Addr) : List Addr :=
  (List.range (last.toNat + 1 - first.toNat)).map fun k => first + BitVec.ofNat 16 k

/-- The counters of a list of addresses, or the error of an address that is out of range (R341). That the error names the first
such address of the list, for a range the lowest, is the model's (DESIGN CHOICE, log entry 24), and so is its kind (log entry
12): the spec says only "if any address of the range resolves out of range". -/
def State.statisticsOf (s : State) : List Addr → Except HostError (List Count)
  | [] => .ok []
  | a :: rest =>
    match s.statistics a with
    | none => .error (.met (.outOfRange a .load))
    | some n =>
      match s.statisticsOf rest with
      | .error e => .error e
      | .ok ns => .ok (n :: ns)

/-- Insert into an ascending list. -/
def insertCount (n : Count) : List Count → List Count
  | [] => [n]
  | m :: rest => if n.toNat ≤ m.toNat then n :: m :: rest else m :: insertCount n rest

/-- Sorted ascending. -/
def sortCounts : List Count → List Count
  | [] => []
  | n :: rest => insertCount n (sortCounts rest)

/-- Distinct values. -/
def distinctCounts : List Count → List Count
  | [] => []
  | n :: rest => if (distinctCounts rest).contains n then distinctCounts rest else n :: distinctCounts rest

/-- `L[Index(|L|, p)]` of a list sorted ascending (R342, R343). -/
def pickCutoff (l : List Count) (p : Fraction) : Count := l.getD (cutoffIndex l.length p) 0

/-- The argument check common to the three commands (R341). Which argument the error names, the fraction first where both are
invalid and the range as a pair, is the model's (DESIGN CHOICE, log entry 21). -/
def checkCutoffArgs (first last : Addr) (p : Fraction) : Option HostError :=
  if validFraction p then
    if first.toNat ≤ last.toNat then none else some (.paramError .addressRange)
  else some (.paramError .fraction)

/-- The two cutoffs (R342, R343) after the argument check. -/
def State.cutoff (s : State) (alg : CutoffAlgorithm) (first last : Addr) (p : Fraction) : Except HostError Count :=
  match checkCutoffArgs first last p with
  | some e => .error e
  | none =>
    match s.statisticsOf (addrRange first last) with
    | .error e => .error e
    | .ok ns =>
      match alg with
      | .absolute => .ok (pickCutoff (sortCounts (distinctCounts ns)) p)
      | .median => .ok (pickCutoff (sortCounts ns) p)

/-- The labels of an address, insertion order kept (R340). -/
def labelsAt (labels : List (Addr × List String)) (a : Addr) : List String :=
  labels.flatMap fun e => if e.1 = a then e.2 else []

/-- "subtracts 1 from the raw counter ... floored at 0" (R345). -/
def adjustedCount (n : Count) : Count := if n = 0 then 0 else n - 1

/-- The walk of the report (R345): per address its labels, one counted load, the counter read after it, and the hotspot
decision (R346). An out-of-range load ends it after the lines already emitted. -/
def reportWalk (c : Count) (labels : List (Addr × List String)) :
    List Addr → State → List ReportLine × Option HostError × State
  | [], s => ([], none, s)
  | a :: rest, s =>
    let heading := (labelsAt labels a).map .label
    match memRead a s with
    | .error f s' => (heading, some (.met f), s')
    | .ok v s' =>
      let adj := adjustedCount ((s'.statistics a).getD 0)
      let (more, ended, t) := reportWalk c labels rest s'
      (heading ++ .entry (decide (c.toNat ≤ adj.toNat)) a v adj :: more, ended, t)

end Sys2Proof.Machine
end

