-- ==== Sys2Proof/Machine/HostPort.lean ====
section
/-! DEFINITION. The host command port (00_scope.md R4 (f), R9 (1)): each command as a function of the state, its errors
(60_exceptions.md R316), and the step of an engine that is not running (10_state.md R42). -/

namespace Sys2Proof.Machine

/-! ## Errors (R316, R317) -/

/-- The codes of execution faults (R317). -/
def FaultRecord.code : FaultRecord → Nat
  | .illegalOpcode _ _ => 1
  | .outOfRange _ _ => 2
  | .invalidBCD _ _ => 3
  | .sinkFailure _ _ => 4

/-- The codes of host errors (R317). -/
def HostError.code : HostError → Nat
  | .met f => f.code
  | .configError _ => 16
  | .programTooShort _ => 17
  | .badRange _ _ => 18
  | .paramError _ => 19
  | .noSnapshot => 20
  | .busy => 21
  | .closed => 22

/-- The code of a result (R317): "Code 0 means success", else the code of the fault or host error it carries; a report that
an out-of-range load has ended carries that error (R345). -/
def HostReply.code : HostReply → Nat
  | .failure f => f.code
  | .error e => e.code
  | .report _ (some e) => e.code
  | .report _ none => 0
  | .ok | .loaded _ _ | .cycles _ | .bytes _ | .statistics _ | .cutoff _ => 0

/-! ## Transfers (R115 to R118) -/

/-- Stores through the full memory path at consecutive addresses, modulo 2^16. -/
def storeAll (a : Addr) : List Byte → Run Unit
  | [] => pure ()
  | v :: rest => do
    memWrite a v
    storeAll (a + 1) rest

/-- Loads through the full memory path at consecutive addresses. -/
def loadAll (a : Addr) : Nat → Run (List Byte)
  | 0 => pure []
  | n + 1 => do
    let v ← memRead a
    let vs ← loadAll (a + 1) n
    return v :: vs

/-- The range check (R118): `length >= 1` and `address + length - 1 <= 0xFFFF` without wrap-around. -/
def validRange (address : Addr) (length : Nat) : Bool :=
  decide (1 ≤ length) && decide (address.toNat + length - 1 ≤ 0xFFFF)

/-- `loadProgram(bytes)` (R115). -/
def hostLoadProgram (bytes : List Byte) (s : State) : HostReply × State :=
  match bytes with
  | lo :: hi :: first :: rest =>
    match storeAll (w16 hi lo) (first :: rest) s with
    | .ok _ s' => (.loaded (w16 hi lo) (rest.length + 1), s')
    | .error f s' => (.error (.met f), s')
  | _ => (.error (.programTooShort bytes.length), s)

/-- `copyToMem(bytes, address)` (R116). -/
def hostCopyToMem (bytes : List Byte) (address : Addr) (s : State) : HostReply × State :=
  if validRange address bytes.length then
    match storeAll address bytes s with
    | .ok _ s' => (.ok, s')
    | .error f s' => (.error (.met f), s')
  else (.error (.badRange address bytes.length), s)

/-- `copyFromMem(address, length)` (R117). -/
def hostCopyFromMem (address : Addr) (length : Nat) (s : State) : HostReply × State :=
  if validRange address length then
    match loadAll address length s with
    | .ok bs s' => (.bytes bs, s')
    | .error f s' => (.error (.met f), s')
  else (.error (.badRange address length), s)

/-! ## Snapshot (R110 to R114) -/

/-- `takeSnapshot()` (R110). -/
def hostTakeSnapshot (s : State) : HostReply × State := (.ok, { s with snap := some s.mem })

/-- `restoreSnapshot()` (R111). -/
def hostRestoreSnapshot (s : State) : HostReply × State :=
  match s.snap with
  | some m => (.ok, { s with mem := m })
  | none => (.error .noSnapshot, s)

/-! ## The rest of the commands -/

/-- `init(memory)` (70_reset_and_hazards.md R361): SP alone. -/
def hostInit (s : State) : HostReply × State := (.ok, s.setSp 0xFF)

/-- `getStatistics(a)` (R119). -/
def hostGetStatistics (a : Addr) (s : State) : HostReply × State :=
  match s.statistics a with
  | some n => (.statistics n, s)
  | none => (.error (.met (.outOfRange a .load)), s)

/-- `cutoffAbsolute` and `cutoffMedian` (60_exceptions.md R342, R343). -/
def hostCutoff (alg : CutoffAlgorithm) (first last : Addr) (p : Fraction) (s : State) : HostReply × State :=
  match s.cutoff alg first last p with
  | .ok c => (.cutoff c, s)
  | .error e => (.error e, s)

/-- `report` (60_exceptions.md R345): the cutoff is computed before the walk. -/
def hostReport (first last : Addr) (p : Fraction) (alg : CutoffAlgorithm) (labels : List (Addr × List String))
    (s : State) : HostReply × State :=
  match s.cutoff alg first last p with
  | .error e => (.error e, s)
  | .ok c =>
    let (lines, ended, s') := reportWalk c labels (addrRange first last) s
    (.report lines ended, s')

/-- `close()` (R105): every sink is closed once, then the backend; the status becomes `Closed`. -/
def hostClose (s : State) : HostReply × State :=
  (.ok, { s with
    sinkCalls := s.sinkCalls ++ ((s.cfg.sinks.map Prod.snd).eraseDups.map .close)
    status    := .closed })

/-- The commands served while a run is in progress, from inside a sink's `write` (60_exceptions.md R316, R326). -/
def servedDuringRun : HostCommand → Bool
  | .copyToMem _ _ | .copyFromMem _ _ | .getStatistics _ => true
  | .init | .loadProgram _ | .run _ | .numCycles | .takeSnapshot | .restoreSnapshot | .cutoffAbsolute _ _ _
  | .cutoffMedian _ _ _ | .report _ _ _ _ _ | .close => false

/-- The refusals by status (R42, R316): `Closed` after `close`, `Busy` during a run. -/
def admission (c : HostCommand) (s : State) : Option HostError :=
  match s.status with
  | .closed => some .closed
  | .running => if servedDuringRun c then none else some .busy
  | .idle | .halted | .faulted => none

/-- What an admitted command does. `run` gives its result when the run ends (40_dispatch.md R160), so it gives none here. -/
def serve (c : HostCommand) (s : State) : Option HostReply × State :=
  let done (r : HostReply × State) : Option HostReply × State := (some r.1, r.2)
  match c with
  | .init => done (hostInit s)
  | .loadProgram bytes => done (hostLoadProgram bytes s)
  | .run start => (none, s.startRun start)
  | .numCycles => done (.cycles s.cycles, s)
  | .copyToMem bytes address => done (hostCopyToMem bytes address s)
  | .copyFromMem address length => done (hostCopyFromMem address length s)
  | .takeSnapshot => done (hostTakeSnapshot s)
  | .restoreSnapshot => done (hostRestoreSnapshot s)
  | .getStatistics a => done (hostGetStatistics a s)
  | .cutoffAbsolute first last p => done (hostCutoff .absolute first last p s)
  | .cutoffMedian first last p => done (hostCutoff .median first last p s)
  | .report first last p alg labels => done (hostReport first last p alg labels s)
  | .close => done (hostClose s)

/-- One host command (R316). -/
def hostCommand (c : HostCommand) (s : State) : Option HostReply × State :=
  match admission c s with
  | some e => (some (.error e), s)
  | none => serve c s

/-- The step of an engine that is not running: the host's next command is carried out and its result given; with no
command pending nothing happens. -/
def hostStep (s : State) : State :=
  match s.commands with
  | [] => s
  | c :: rest =>
    match hostCommand c { s with commands := rest } with
    | (some r, s') => s'.reply r
    | (none, s') => s'

end Sys2Proof.Machine
end

