-- ==== Sys2Proof/Machine/Operands.lean ====
section
/-! DEFINITION. The addressing-mode resolver (40_dispatch.md R165 to R178), each mode with its memory transactions in order,
and beside it what each mode reads and computes as plain functions of the state; and the shapes of an instruction by
operand access class (R180). -/

namespace Sys2Proof.Machine

/-! ## Address arithmetic -/

/-- `zext_16(v)` (R14): a zero-page address. -/
def zeroPage (z : Byte) : Addr := w16 0 z

/-- `zext_16` of an index register: the address offset it adds (R170). -/
def indexOf (v : Byte) : Addr := w16 0 v

/-- `sext_8(v)` as 16 bits (R14). -/
def relOffset (r : Byte) : Addr := r.signExtend 16

/-- `page(a) != page(b)` (R14, R170). -/
def pageCross (a b : Addr) : Bool := hi8 a != hi8 b

/-- The address of a pointer's high byte by `JMP ($nnnn)` (R174, R175): `w16(h0, wrap8(l0 + 1))` on `NMOS6502`,
`wrap16(ptr + 1)` on `CMOS65C02`. -/
def indirectHigh (model : CpuModel) (ptr : Addr) : Addr :=
  match model with
  | .nmos6502 => w16 (hi8 ptr) (lo8 ptr + 1)
  | .cmos65c02 => ptr + 1

/-! ## Effective addresses -/

/-- What a mode yields (R165). -/
structure Ea where
  addr  : Addr
  cross : Bool := false
  deriving DecidableEq, Repr, Inhabited

/-- `base + index` with its page-cross bit (R170, R172). -/
def indexed (base : Addr) (index : Byte) : Ea :=
  { addr := base + indexOf index, cross := pageCross base (base + indexOf index) }

/-- The resolver with its transactions (R167 to R173). -/
def resolveEa (m : MemMode) : Run Ea := do
  match m with
  | .zp z =>
    let z ← fetchOperand z
    return { addr := zeroPage z }
  | .zpx z =>
    let z ← fetchOperand z
    let s ← get
    return { addr := zeroPage (z + s.x) }
  | .zpy z =>
    let z ← fetchOperand z
    let s ← get
    return { addr := zeroPage (z + s.y) }
  | .abs a =>
    let a ← fetchWord a
    return { addr := a }
  | .absx a =>
    let a ← fetchWord a
    let s ← get
    return indexed a s.x
  | .absy a =>
    let a ← fetchWord a
    let s ← get
    return indexed a s.y
  | .indx z =>
    let z ← fetchOperand z
    let s ← get
    let l ← memRead (zeroPage (z + s.x))
    let h ← memRead (zeroPage (z + s.x + 1))
    return { addr := w16 h l }
  | .indy z =>
    let z ← fetchOperand z
    let l ← memRead (zeroPage z)
    let h ← memRead (zeroPage (z + 1))
    let s ← get
    return indexed (w16 h l) s.y
  | .zpi z =>
    let z ← fetchOperand z
    let l ← memRead (zeroPage z)
    let h ← memRead (zeroPage (z + 1))
    return { addr := w16 h l }

/-- The effective address and page-cross bit of a mode in a state, with no transaction (R167 to R173). -/
def State.ea (s : State) (m : MemMode) : Ea :=
  match m with
  | .zp z => { addr := zeroPage z }
  | .zpx z => { addr := zeroPage (z + s.x) }
  | .zpy z => { addr := zeroPage (z + s.y) }
  | .abs a => { addr := a }
  | .absx a => indexed a s.x
  | .absy a => indexed a s.y
  | .indx z => { addr := w16 (s.peek (zeroPage (z + s.x + 1))) (s.peek (zeroPage (z + s.x))) }
  | .indy z => indexed (w16 (s.peek (zeroPage (z + 1))) (s.peek (zeroPage z))) s.y
  | .zpi z => { addr := w16 (s.peek (zeroPage (z + 1))) (s.peek (zeroPage z)) }

/-- How many operand bytes a mode has (R141). -/
def modeBytes (m : MemMode) : Nat :=
  match m with
  | .zp _ | .zpx _ | .zpy _ | .indx _ | .indy _ | .zpi _ => 1
  | .abs _ | .absx _ | .absy _ => 2

/-- The addresses loaded while a mode is resolved, in order: operand bytes, then pointer bytes, low then high (R198). PC is
past the opcode. -/
def State.modeReads (s : State) (m : MemMode) : List Addr :=
  match m with
  | .zp _ | .zpx _ | .zpy _ => [s.pc]
  | .abs _ | .absx _ | .absy _ => [s.pc, s.pc + 1]
  | .indx z => [s.pc, zeroPage (z + s.x), zeroPage (z + s.x + 1)]
  | .indy z | .zpi z => [s.pc, zeroPage z, zeroPage (z + 1)]

/-! ## Operands by format (R141, R180) -/

/-- The addresses loaded while an operand is resolved, in order (R198): for REL the offset of a taken branch, for ZPREL the
zero-page operand and its byte, which come before the decision (R178). PC is past the opcode. -/
def State.operandReads (s : State) (o : Operand) : List Addr :=
  match o with
  | .imp | .acc => []
  | .imm _ | .rel _ => [s.pc]
  | .mem m => s.modeReads m
  | .ind a => [s.pc, s.pc + 1, a, indirectHigh s.cfg.model a]
  | .aix a => [s.pc, s.pc + 1, a + indexOf s.x, a + indexOf s.x + 1]
  | .zprel z _ => [s.pc, zeroPage z]

/-- The addresses a Read-class instruction loads: the operand's, then the data read where the operand is in memory. -/
def State.dataReads (s : State) (o : Operand) : List Addr :=
  match o with
  | .mem m => s.modeReads m ++ [(s.ea m).addr]
  | .imp | .acc | .imm _ | .rel _ | .ind _ | .aix _ | .zprel _ _ => s.operandReads o

/-- The operand `M` of a Read-class instruction, A for the accumulator forms (R180); no other format has one. -/
def State.operandValue (s : State) (o : Operand) : Byte :=
  match o with
  | .acc => s.a
  | .imm v => v
  | .mem m => s.peek (s.ea m).addr
  | .zprel z _ => s.peek (zeroPage z)
  | .imp | .rel _ | .ind _ | .aix _ => 0

/-- The page-cross bit of an operand's address computation (R165). -/
def State.operandCross (s : State) (o : Operand) : Bool :=
  match o with
  | .mem m => (s.ea m).cross
  | .imp | .acc | .imm _ | .rel _ | .ind _ | .aix _ | .zprel _ _ => false

/-- The target of a jump operand (R169, R174 to R176). -/
def State.jumpTarget (s : State) (o : Operand) : Addr :=
  match o with
  | .mem m => (s.ea m).addr
  | .ind a => w16 (s.peek (indirectHigh s.cfg.model a)) (s.peek a)
  | .aix a => w16 (s.peek (a + indexOf s.x + 1)) (s.peek (a + indexOf s.x))
  | .imp | .acc | .imm _ | .rel _ | .zprel _ _ => 0

/-- PC past the whole instruction, from PC past its opcode (R38). -/
def State.nextPc (s : State) (i : Instr) : Addr := s.pc + BitVec.ofNat 16 i.operand.bytes.length

/-- The state past instruction `i` with the loads `addrs`: their counters, PC past the instruction, the cost added to
CYCLES, and nothing else. -/
def State.past (s : State) (i : Instr) (addrs : List Addr) (t : Timing) : State :=
  { s.counted addrs with
    pc     := s.nextPc i
    cycles := s.cycles + BitVec.ofNat 64 (instrCost s.cfg i.opcode t) }

/-! ## Branches and jumps -/

/-- REL (R177): not taken, PC passes `rel8` with no transaction; taken, `rel8` is fetched and added to the PC after it. -/
def relBranch (cond : Bool) (r : Byte) : Run Timing := do
  if cond then
    let r ← fetchOperand r
    let s ← get
    let target := s.pc + relOffset r
    modify fun s => s.setPc target
    return { taken := true, cross := pageCross s.pc target }
  else
    modify fun s => s.setPc (s.pc + 1)
    return {}

/-- The target of IND (R174, R175). -/
def indirectTarget (a : Addr) : Run Addr := do
  let ptr ← fetchWord a
  let s ← get
  let lo ← memRead ptr
  let hi ← memRead (indirectHigh s.cfg.model ptr)
  return w16 hi lo

/-- The target of AIX (R176). -/
def indexedIndirectTarget (a : Addr) : Run Addr := do
  let a ← fetchWord a
  let s ← get
  let lo ← memRead (a + indexOf s.x)
  let hi ← memRead (a + indexOf s.x + 1)
  return w16 hi lo

/-! ## Shapes of an instruction (R180) -/

/-- An implied instruction: no operand and no transaction beyond the opcode fetch (R179). -/
def implied (op : Byte) (f : State → State) : State → StepResult :=
  runInstr op do
    modify f
    return {}

/-- Read class with an immediate operand (R166). -/
def readImm (op : Byte) (v : Byte) (f : State → Byte → State) : State → StepResult :=
  runInstr op do
    let m ← fetchOperand v
    modify fun s => f s m
    return {}

/-- Read class with a memory operand: `M <- MemRead(ea)`. -/
def readMem (op : Byte) (mode : MemMode) (f : State → Byte → State) : State → StepResult :=
  runInstr op do
    let e ← resolveEa mode
    let m ← memRead e.addr
    modify fun s => f s m
    return { cross := e.cross }

/-- ADC or SBC with an immediate operand: the operation may raise, and its cost depends on `P.D` (R188). -/
def arithImm (op : Byte) (v : Byte) (f : Byte → Run Unit) : State → StepResult :=
  runInstr op do
    let s ← get
    let m ← fetchOperand v
    f m
    return { decimal := flag s.p .d }

/-- ADC or SBC with a memory operand. -/
def arithMem (op : Byte) (mode : MemMode) (f : Byte → Run Unit) : State → StepResult :=
  runInstr op do
    let s ← get
    let e ← resolveEa mode
    let m ← memRead e.addr
    f m
    return { cross := e.cross, decimal := flag s.p .d }

/-- Write class: `MemWrite(ea, v)`, with no load of `ea`. -/
def writeMem (op : Byte) (mode : MemMode) (v : State → Byte) : State → StepResult :=
  runInstr op do
    let e ← resolveEa mode
    let s ← get
    memWrite e.addr (v s)
    return { cross := e.cross }

/-- RMW class: `M <- MemRead(ea); M' <- f(M); MemWrite(ea, M')`, then the new P. -/
def rmwMem (op : Byte) (mode : MemMode) (f : State → Byte → Byte × Byte) : State → StepResult :=
  runInstr op do
    let e ← resolveEa mode
    let m ← memRead e.addr
    let s ← get
    memWrite e.addr (f s m).1
    modify fun t => t.setP (f s m).2
    return { cross := e.cross }

/-- The ACC form of an RMW instruction: on A, with no data access (R179). -/
def accumulator (op : Byte) (f : State → Byte → Byte × Byte) : State → StepResult :=
  implied op fun s => (s.setA (f s s.a).1).setP (f s s.a).2

/-- A conditional branch: `cond` is computed from P before the operand is touched (R177, R260). -/
def branch (op : Byte) (cond : Byte → Bool) (r : Byte) : State → StepResult :=
  runInstr op do
    let s ← get
    relBranch (cond s.p) r

/-- BBRb and BBSb: taken iff bit `b` of the zero-page byte is `want` (R178). -/
def bitBranch (op : Byte) (b : Fin 8) (want : Bool) (z r : Byte) : State → StepResult :=
  runInstr op do
    let z ← fetchOperand z
    let m ← memRead (zeroPage z)
    relBranch (m.getLsbD b.val == want) r

/-- A push instruction. -/
def pushByte (op : Byte) (v : State → Byte) : State → StepResult :=
  runInstr op do
    let s ← get
    push (v s)
    return {}

/-- A pull instruction. -/
def pullByte (op : Byte) (f : State → Byte → State) : State → StepResult :=
  runInstr op do
    let v ← pop
    modify fun s => f s v
    return {}

end Sys2Proof.Machine
end

