-- ==== Sys2Proof/Machine/Arith.lean ====
section
/-! DEFINITION. Arithmetic, compare, increment and decrement (42_arithmetic.md R220 to R231), one meaning for each row. -/

namespace Sys2Proof.Machine

/-- `InvalidBCD(a, m)` where the decimal function refuses its operands, else A and C as it computes them and N, Z and V
each a free value (R221, R222, log entry 7). -/
def decimalResult (m : Byte) (r : Option (Byte × Bool)) : Run Unit := do
  let s ← get
  match r with
  | none => throw (.invalidBCD s.a m)
  | some (v, c) =>
    let p := setFlag (setFlag (setFlag (setFlag s.p .c c) .n (Config.freeFlag s.draws))
      .z (Config.freeFlag (s.draws + 1))) .v (Config.freeFlag (s.draws + 2))
    set { (s.setA v).setP p with draws := s.draws + 3 }

/-- A, C, V and then Z, N from a binary sum (R221, R222). -/
def binaryResult (r : Byte × Bool × Bool) : Run Unit :=
  modify fun s => (s.setA r.1).setP (setNZ (setFlag (setFlag s.p .c r.2.1) .v r.2.2) r.1)

/-- `ADC` of an operand (R221). -/
def adc (m : Byte) : Run Unit := do
  let s ← get
  if flag s.p .d then decimalResult m (addBcd s.a m (flag s.p .c))
  else binaryResult (addBin s.a m (flag s.p .c))

/-- `SBC` of an operand (R222). -/
def sbc (m : Byte) : Run Unit := do
  let s ← get
  if flag s.p .d then decimalResult m (subBcd s.a m (flag s.p .c))
  else binaryResult (subBin s.a m (flag s.p .c))

/-- `Compare(A, M)` (R223). -/
def State.compareA (s : State) (m : Byte) : State := s.setP (compareFlags s.p s.a m)

/-- `Compare(X, M)` (R224). -/
def State.compareX (s : State) (m : Byte) : State := s.setP (compareFlags s.p s.x m)

/-- `Compare(Y, M)` (R225). -/
def State.compareY (s : State) (m : Byte) : State := s.setP (compareFlags s.p s.y m)

/-- R221: ADC IMM, 0x69. -/
def execAdcImm (v : Byte) (s : State) : StepResult := arithImm 0x69 v adc s

/-- R221: ADC ZP, 0x65. -/
def execAdcZp (z : Byte) (s : State) : StepResult := arithMem 0x65 (.zp z) adc s

/-- R221: ADC ZPX, 0x75. -/
def execAdcZpx (z : Byte) (s : State) : StepResult := arithMem 0x75 (.zpx z) adc s

/-- R221: ADC ABS, 0x6D. -/
def execAdcAbs (a : Addr) (s : State) : StepResult := arithMem 0x6D (.abs a) adc s

/-- R221: ADC ABSX, 0x7D. -/
def execAdcAbsx (a : Addr) (s : State) : StepResult := arithMem 0x7D (.absx a) adc s

/-- R221: ADC ABSY, 0x79. -/
def execAdcAbsy (a : Addr) (s : State) : StepResult := arithMem 0x79 (.absy a) adc s

/-- R221: ADC INDX, 0x61. -/
def execAdcIndx (z : Byte) (s : State) : StepResult := arithMem 0x61 (.indx z) adc s

/-- R221: ADC INDY, 0x71. -/
def execAdcIndy (z : Byte) (s : State) : StepResult := arithMem 0x71 (.indy z) adc s

/-- R221: ADC ZPI, 0x72, `CMOS65C02` only. -/
def execAdcZpi (z : Byte) (s : State) : StepResult := cmosOnly 0x72 (arithMem 0x72 (.zpi z) adc) s

/-- R222: SBC IMM, 0xE9. -/
def execSbcImm (v : Byte) (s : State) : StepResult := arithImm 0xE9 v sbc s

/-- R222: SBC ZP, 0xE5. -/
def execSbcZp (z : Byte) (s : State) : StepResult := arithMem 0xE5 (.zp z) sbc s

/-- R222: SBC ZPX, 0xF5. -/
def execSbcZpx (z : Byte) (s : State) : StepResult := arithMem 0xF5 (.zpx z) sbc s

/-- R222: SBC ABS, 0xED. -/
def execSbcAbs (a : Addr) (s : State) : StepResult := arithMem 0xED (.abs a) sbc s

/-- R222: SBC ABSX, 0xFD. -/
def execSbcAbsx (a : Addr) (s : State) : StepResult := arithMem 0xFD (.absx a) sbc s

/-- R222: SBC ABSY, 0xF9. -/
def execSbcAbsy (a : Addr) (s : State) : StepResult := arithMem 0xF9 (.absy a) sbc s

/-- R222: SBC INDX, 0xE1. -/
def execSbcIndx (z : Byte) (s : State) : StepResult := arithMem 0xE1 (.indx z) sbc s

/-- R222: SBC INDY, 0xF1. -/
def execSbcIndy (z : Byte) (s : State) : StepResult := arithMem 0xF1 (.indy z) sbc s

/-- R222: SBC ZPI, 0xF2, `CMOS65C02` only. -/
def execSbcZpi (z : Byte) (s : State) : StepResult := cmosOnly 0xF2 (arithMem 0xF2 (.zpi z) sbc) s

/-- R223: CMP IMM, 0xC9. -/
def execCmpImm (v : Byte) (s : State) : StepResult := readImm 0xC9 v State.compareA s

/-- R223: CMP ZP, 0xC5. -/
def execCmpZp (z : Byte) (s : State) : StepResult := readMem 0xC5 (.zp z) State.compareA s

/-- R223: CMP ZPX, 0xD5. -/
def execCmpZpx (z : Byte) (s : State) : StepResult := readMem 0xD5 (.zpx z) State.compareA s

/-- R223: CMP ABS, 0xCD. -/
def execCmpAbs (a : Addr) (s : State) : StepResult := readMem 0xCD (.abs a) State.compareA s

/-- R223: CMP ABSX, 0xDD. -/
def execCmpAbsx (a : Addr) (s : State) : StepResult := readMem 0xDD (.absx a) State.compareA s

/-- R223: CMP ABSY, 0xD9. -/
def execCmpAbsy (a : Addr) (s : State) : StepResult := readMem 0xD9 (.absy a) State.compareA s

/-- R223: CMP INDX, 0xC1. -/
def execCmpIndx (z : Byte) (s : State) : StepResult := readMem 0xC1 (.indx z) State.compareA s

/-- R223: CMP INDY, 0xD1. -/
def execCmpIndy (z : Byte) (s : State) : StepResult := readMem 0xD1 (.indy z) State.compareA s

/-- R223: CMP ZPI, 0xD2, `CMOS65C02` only. -/
def execCmpZpi (z : Byte) (s : State) : StepResult := cmosOnly 0xD2 (readMem 0xD2 (.zpi z) State.compareA) s

/-- R224: CPX IMM, 0xE0. -/
def execCpxImm (v : Byte) (s : State) : StepResult := readImm 0xE0 v State.compareX s

/-- R224: CPX ZP, 0xE4. -/
def execCpxZp (z : Byte) (s : State) : StepResult := readMem 0xE4 (.zp z) State.compareX s

/-- R224: CPX ABS, 0xEC. -/
def execCpxAbs (a : Addr) (s : State) : StepResult := readMem 0xEC (.abs a) State.compareX s

/-- R225: CPY IMM, 0xC0. -/
def execCpyImm (v : Byte) (s : State) : StepResult := readImm 0xC0 v State.compareY s

/-- R225: CPY ZP, 0xC4. -/
def execCpyZp (z : Byte) (s : State) : StepResult := readMem 0xC4 (.zp z) State.compareY s

/-- R225: CPY ABS, 0xCC. -/
def execCpyAbs (a : Addr) (s : State) : StepResult := readMem 0xCC (.abs a) State.compareY s

/-- R226: INC ACC, 0x1A, `CMOS65C02` only. -/
def execIncAcc (s : State) : StepResult := cmosOnly 0x1A (accumulator 0x1A (fun s => incValue s.p)) s

/-- R226: INC ZP, 0xE6. -/
def execIncZp (z : Byte) (s : State) : StepResult := rmwMem 0xE6 (.zp z) (fun s => incValue s.p) s

/-- R226: INC ZPX, 0xF6. -/
def execIncZpx (z : Byte) (s : State) : StepResult := rmwMem 0xF6 (.zpx z) (fun s => incValue s.p) s

/-- R226: INC ABS, 0xEE. -/
def execIncAbs (a : Addr) (s : State) : StepResult := rmwMem 0xEE (.abs a) (fun s => incValue s.p) s

/-- R226: INC ABSX, 0xFE. -/
def execIncAbsx (a : Addr) (s : State) : StepResult := rmwMem 0xFE (.absx a) (fun s => incValue s.p) s

/-- R227: DEC ACC, 0x3A, `CMOS65C02` only. -/
def execDecAcc (s : State) : StepResult := cmosOnly 0x3A (accumulator 0x3A (fun s => decValue s.p)) s

/-- R227: DEC ZP, 0xC6. -/
def execDecZp (z : Byte) (s : State) : StepResult := rmwMem 0xC6 (.zp z) (fun s => decValue s.p) s

/-- R227: DEC ZPX, 0xD6. -/
def execDecZpx (z : Byte) (s : State) : StepResult := rmwMem 0xD6 (.zpx z) (fun s => decValue s.p) s

/-- R227: DEC ABS, 0xCE. -/
def execDecAbs (a : Addr) (s : State) : StepResult := rmwMem 0xCE (.abs a) (fun s => decValue s.p) s

/-- R227: DEC ABSX, 0xDE. -/
def execDecAbsx (a : Addr) (s : State) : StepResult := rmwMem 0xDE (.absx a) (fun s => decValue s.p) s

/-- R228: INX IMP, 0xE8. -/
def execInx (s : State) : StepResult := implied 0xE8 (fun s => s.loadX (s.x + 1)) s

/-- R229: INY IMP, 0xC8. -/
def execIny (s : State) : StepResult := implied 0xC8 (fun s => s.loadY (s.y + 1)) s

/-- R230: DEX IMP, 0xCA. -/
def execDex (s : State) : StepResult := implied 0xCA (fun s => s.loadX (s.x - 1)) s

/-- R231: DEY IMP, 0x88. -/
def execDey (s : State) : StepResult := implied 0x88 (fun s => s.loadY (s.y - 1)) s

end Sys2Proof.Machine
end

