-- ==== Sys2Proof/Machine/Control.lean ====
section
/-! DEFINITION. Branches, jumps, subroutines, halt and no-operation (44_control.md R260 to R277), one meaning for each
row. -/

namespace Sys2Proof.Machine

/-- R261: BPL REL, 0x10. -/
def execBpl (r : Byte) (s : State) : StepResult := branch 0x10 (fun p => !flag p .n) r s

/-- R262: BMI REL, 0x30. -/
def execBmi (r : Byte) (s : State) : StepResult := branch 0x30 (fun p => flag p .n) r s

/-- R263: BVC REL, 0x50. -/
def execBvc (r : Byte) (s : State) : StepResult := branch 0x50 (fun p => !flag p .v) r s

/-- R264: BVS REL, 0x70. -/
def execBvs (r : Byte) (s : State) : StepResult := branch 0x70 (fun p => flag p .v) r s

/-- R265: BCC REL, 0x90. -/
def execBcc (r : Byte) (s : State) : StepResult := branch 0x90 (fun p => !flag p .c) r s

/-- R266: BCS REL, 0xB0. -/
def execBcs (r : Byte) (s : State) : StepResult := branch 0xB0 (fun p => flag p .c) r s

/-- R267: BNE REL, 0xD0. -/
def execBne (r : Byte) (s : State) : StepResult := branch 0xD0 (fun p => !flag p .z) r s

/-- R268: BEQ REL, 0xF0. -/
def execBeq (r : Byte) (s : State) : StepResult := branch 0xF0 (fun p => flag p .z) r s

/-- R269: BRA REL, 0x80, `CMOS65C02` only. -/
def execBra (r : Byte) (s : State) : StepResult := cmosOnly 0x80 (branch 0x80 (fun _ => true) r) s

/-- R270: BBR0 ZPREL, 0x0F, `CMOS65C02` only. -/
def execBbr0 (z r : Byte) (s : State) : StepResult := cmosOnly 0x0F (bitBranch 0x0F 0 false z r) s

/-- R270: BBR1 ZPREL, 0x1F, `CMOS65C02` only. -/
def execBbr1 (z r : Byte) (s : State) : StepResult := cmosOnly 0x1F (bitBranch 0x1F 1 false z r) s

/-- R270: BBR2 ZPREL, 0x2F, `CMOS65C02` only. -/
def execBbr2 (z r : Byte) (s : State) : StepResult := cmosOnly 0x2F (bitBranch 0x2F 2 false z r) s

/-- R270: BBR3 ZPREL, 0x3F, `CMOS65C02` only. -/
def execBbr3 (z r : Byte) (s : State) : StepResult := cmosOnly 0x3F (bitBranch 0x3F 3 false z r) s

/-- R270: BBR4 ZPREL, 0x4F, `CMOS65C02` only. -/
def execBbr4 (z r : Byte) (s : State) : StepResult := cmosOnly 0x4F (bitBranch 0x4F 4 false z r) s

/-- R270: BBR5 ZPREL, 0x5F, `CMOS65C02` only. -/
def execBbr5 (z r : Byte) (s : State) : StepResult := cmosOnly 0x5F (bitBranch 0x5F 5 false z r) s

/-- R270: BBR6 ZPREL, 0x6F, `CMOS65C02` only. -/
def execBbr6 (z r : Byte) (s : State) : StepResult := cmosOnly 0x6F (bitBranch 0x6F 6 false z r) s

/-- R270: BBR7 ZPREL, 0x7F, `CMOS65C02` only. -/
def execBbr7 (z r : Byte) (s : State) : StepResult := cmosOnly 0x7F (bitBranch 0x7F 7 false z r) s

/-- R271: BBS0 ZPREL, 0x8F, `CMOS65C02` only. -/
def execBbs0 (z r : Byte) (s : State) : StepResult := cmosOnly 0x8F (bitBranch 0x8F 0 true z r) s

/-- R271: BBS1 ZPREL, 0x9F, `CMOS65C02` only. -/
def execBbs1 (z r : Byte) (s : State) : StepResult := cmosOnly 0x9F (bitBranch 0x9F 1 true z r) s

/-- R271: BBS2 ZPREL, 0xAF, `CMOS65C02` only. -/
def execBbs2 (z r : Byte) (s : State) : StepResult := cmosOnly 0xAF (bitBranch 0xAF 2 true z r) s

/-- R271: BBS3 ZPREL, 0xBF, `CMOS65C02` only. -/
def execBbs3 (z r : Byte) (s : State) : StepResult := cmosOnly 0xBF (bitBranch 0xBF 3 true z r) s

/-- R271: BBS4 ZPREL, 0xCF, `CMOS65C02` only. -/
def execBbs4 (z r : Byte) (s : State) : StepResult := cmosOnly 0xCF (bitBranch 0xCF 4 true z r) s

/-- R271: BBS5 ZPREL, 0xDF, `CMOS65C02` only. -/
def execBbs5 (z r : Byte) (s : State) : StepResult := cmosOnly 0xDF (bitBranch 0xDF 5 true z r) s

/-- R271: BBS6 ZPREL, 0xEF, `CMOS65C02` only. -/
def execBbs6 (z r : Byte) (s : State) : StepResult := cmosOnly 0xEF (bitBranch 0xEF 6 true z r) s

/-- R271: BBS7 ZPREL, 0xFF, `CMOS65C02` only. -/
def execBbs7 (z r : Byte) (s : State) : StepResult := cmosOnly 0xFF (bitBranch 0xFF 7 true z r) s

/-- R272: JMP ABS, 0x4C. -/
def execJmpAbs (a : Addr) (s : State) : StepResult :=
  runInstr 0x4C (do
    let a ← fetchWord a
    modify fun s => s.setPc a
    return {}) s

/-- R272: JMP IND, 0x6C. -/
def execJmpInd (a : Addr) (s : State) : StepResult :=
  runInstr 0x6C (do
    let target ← indirectTarget a
    modify fun s => s.setPc target
    return {}) s

/-- R272: JMP AIX, 0x7C, `CMOS65C02` only. -/
def execJmpAix (a : Addr) (s : State) : StepResult :=
  cmosOnly 0x7C (runInstr 0x7C do
    let target ← indexedIndirectTarget a
    modify fun s => s.setPc target
    return {}) s

/-- R273: JSR ABS, 0x20: the return address is that of the instruction's last byte. -/
def execJsr (a : Addr) (s : State) : StepResult :=
  runInstr 0x20 (do
    let a ← fetchWord a
    let s ← get
    let ret := s.pc - 1
    push (hi8 ret)
    push (lo8 ret)
    modify fun s => s.setPc a
    return {}) s

/-- R274: RTS IMP, 0x60. -/
def execRts (s : State) : StepResult :=
  runInstr 0x60 (do
    let l ← pop
    let h ← pop
    modify fun s => s.setPc (w16 h l + 1)
    return {}) s

/-- R275: RTI IMP, 0x40: all 8 bits of P, and no +1. -/
def execRti (s : State) : StepResult :=
  runInstr 0x40 (do
    let p ← pop
    modify fun s => s.setP p
    let l ← pop
    let h ← pop
    modify fun s => s.setPc (w16 h l)
    return {}) s

/-- R276: BRK IMP, 0x00: the run halts; no push, no vector, no register but PC, which the opcode fetch has advanced. -/
def execBrk (s : State) : StepResult := implied 0x00 State.haltRun s

/-- R277: NOP IMP, 0xEA. -/
def execNop (s : State) : StepResult := implied 0xEA (fun s => s) s

end Sys2Proof.Machine
end

