-- ==== Sys2Proof/Machine/LoadStore.lean ====
section
/-! DEFINITION. Loads, stores and register transfers (41_load_store_transfer.md R200 to R213), one meaning for each row. -/

namespace Sys2Proof.Machine

/-- R201: LDA IMM, 0xA9. -/
def execLdaImm (v : Byte) (s : State) : StepResult := readImm 0xA9 v State.loadA s

/-- R201: LDA ZP, 0xA5. -/
def execLdaZp (z : Byte) (s : State) : StepResult := readMem 0xA5 (.zp z) State.loadA s

/-- R201: LDA ZPX, 0xB5. -/
def execLdaZpx (z : Byte) (s : State) : StepResult := readMem 0xB5 (.zpx z) State.loadA s

/-- R201: LDA ABS, 0xAD. -/
def execLdaAbs (a : Addr) (s : State) : StepResult := readMem 0xAD (.abs a) State.loadA s

/-- R201: LDA ABSX, 0xBD. -/
def execLdaAbsx (a : Addr) (s : State) : StepResult := readMem 0xBD (.absx a) State.loadA s

/-- R201: LDA ABSY, 0xB9. -/
def execLdaAbsy (a : Addr) (s : State) : StepResult := readMem 0xB9 (.absy a) State.loadA s

/-- R201: LDA INDX, 0xA1. -/
def execLdaIndx (z : Byte) (s : State) : StepResult := readMem 0xA1 (.indx z) State.loadA s

/-- R201: LDA INDY, 0xB1. -/
def execLdaIndy (z : Byte) (s : State) : StepResult := readMem 0xB1 (.indy z) State.loadA s

/-- R201: LDA ZPI, 0xB2, `CMOS65C02` only. -/
def execLdaZpi (z : Byte) (s : State) : StepResult := cmosOnly 0xB2 (readMem 0xB2 (.zpi z) State.loadA) s

/-- R202: LDX IMM, 0xA2. -/
def execLdxImm (v : Byte) (s : State) : StepResult := readImm 0xA2 v State.loadX s

/-- R202: LDX ZP, 0xA6. -/
def execLdxZp (z : Byte) (s : State) : StepResult := readMem 0xA6 (.zp z) State.loadX s

/-- R202: LDX ZPY, 0xB6. -/
def execLdxZpy (z : Byte) (s : State) : StepResult := readMem 0xB6 (.zpy z) State.loadX s

/-- R202: LDX ABS, 0xAE. -/
def execLdxAbs (a : Addr) (s : State) : StepResult := readMem 0xAE (.abs a) State.loadX s

/-- R202: LDX ABSY, 0xBE. -/
def execLdxAbsy (a : Addr) (s : State) : StepResult := readMem 0xBE (.absy a) State.loadX s

/-- R203: LDY IMM, 0xA0. -/
def execLdyImm (v : Byte) (s : State) : StepResult := readImm 0xA0 v State.loadY s

/-- R203: LDY ZP, 0xA4. -/
def execLdyZp (z : Byte) (s : State) : StepResult := readMem 0xA4 (.zp z) State.loadY s

/-- R203: LDY ZPX, 0xB4. -/
def execLdyZpx (z : Byte) (s : State) : StepResult := readMem 0xB4 (.zpx z) State.loadY s

/-- R203: LDY ABS, 0xAC. -/
def execLdyAbs (a : Addr) (s : State) : StepResult := readMem 0xAC (.abs a) State.loadY s

/-- R203: LDY ABSX, 0xBC. -/
def execLdyAbsx (a : Addr) (s : State) : StepResult := readMem 0xBC (.absx a) State.loadY s

/-- R204: STA ZP, 0x85. -/
def execStaZp (z : Byte) (s : State) : StepResult := writeMem 0x85 (.zp z) State.a s

/-- R204: STA ZPX, 0x95. -/
def execStaZpx (z : Byte) (s : State) : StepResult := writeMem 0x95 (.zpx z) State.a s

/-- R204: STA ABS, 0x8D. -/
def execStaAbs (a : Addr) (s : State) : StepResult := writeMem 0x8D (.abs a) State.a s

/-- R204: STA ABSX, 0x9D. -/
def execStaAbsx (a : Addr) (s : State) : StepResult := writeMem 0x9D (.absx a) State.a s

/-- R204: STA ABSY, 0x99. -/
def execStaAbsy (a : Addr) (s : State) : StepResult := writeMem 0x99 (.absy a) State.a s

/-- R204: STA INDX, 0x81. -/
def execStaIndx (z : Byte) (s : State) : StepResult := writeMem 0x81 (.indx z) State.a s

/-- R204: STA INDY, 0x91. -/
def execStaIndy (z : Byte) (s : State) : StepResult := writeMem 0x91 (.indy z) State.a s

/-- R204: STA ZPI, 0x92, `CMOS65C02` only. -/
def execStaZpi (z : Byte) (s : State) : StepResult := cmosOnly 0x92 (writeMem 0x92 (.zpi z) State.a) s

/-- R205: STX ZP, 0x86. -/
def execStxZp (z : Byte) (s : State) : StepResult := writeMem 0x86 (.zp z) State.x s

/-- R205: STX ZPY, 0x96. -/
def execStxZpy (z : Byte) (s : State) : StepResult := writeMem 0x96 (.zpy z) State.x s

/-- R205: STX ABS, 0x8E. -/
def execStxAbs (a : Addr) (s : State) : StepResult := writeMem 0x8E (.abs a) State.x s

/-- R206: STY ZP, 0x84. -/
def execStyZp (z : Byte) (s : State) : StepResult := writeMem 0x84 (.zp z) State.y s

/-- R206: STY ZPX, 0x94. -/
def execStyZpx (z : Byte) (s : State) : StepResult := writeMem 0x94 (.zpx z) State.y s

/-- R206: STY ABS, 0x8C. -/
def execStyAbs (a : Addr) (s : State) : StepResult := writeMem 0x8C (.abs a) State.y s

/-- R207: STZ ZP, 0x64, `CMOS65C02` only. -/
def execStzZp (z : Byte) (s : State) : StepResult := cmosOnly 0x64 (writeMem 0x64 (.zp z) (fun _ => 0x00)) s

/-- R207: STZ ZPX, 0x74, `CMOS65C02` only. -/
def execStzZpx (z : Byte) (s : State) : StepResult := cmosOnly 0x74 (writeMem 0x74 (.zpx z) (fun _ => 0x00)) s

/-- R207: STZ ABS, 0x9C, `CMOS65C02` only. -/
def execStzAbs (a : Addr) (s : State) : StepResult := cmosOnly 0x9C (writeMem 0x9C (.abs a) (fun _ => 0x00)) s

/-- R207: STZ ABSX, 0x9E, `CMOS65C02` only. -/
def execStzAbsx (a : Addr) (s : State) : StepResult := cmosOnly 0x9E (writeMem 0x9E (.absx a) (fun _ => 0x00)) s

/-- R208: TAX IMP, 0xAA. -/
def execTax (s : State) : StepResult := implied 0xAA (fun s => s.loadX s.a) s

/-- R209: TAY IMP, 0xA8. -/
def execTay (s : State) : StepResult := implied 0xA8 (fun s => s.loadY s.a) s

/-- R210: TXA IMP, 0x8A. -/
def execTxa (s : State) : StepResult := implied 0x8A (fun s => s.loadA s.x) s

/-- R211: TYA IMP, 0x98. -/
def execTya (s : State) : StepResult := implied 0x98 (fun s => s.loadA s.y) s

/-- R212: TSX IMP, 0xBA. -/
def execTsx (s : State) : StepResult := implied 0xBA (fun s => s.loadX s.sp) s

/-- R213: TXS IMP, 0x9A. -/
def execTxs (s : State) : StepResult := implied 0x9A (fun s => s.setSp s.x) s

end Sys2Proof.Machine
end

