-- ==== Sys2Proof/Machine/Logic.lean ====
section
/-! DEFINITION. Logic, shifts, rotates and bit manipulation (43_logic_shift_bit.md R240 to R252), one meaning for each
row. -/

namespace Sys2Proof.Machine

/-- `A <- A AND M; SetNZ(A)` (R241). -/
def State.andA (s : State) (m : Byte) : State := s.loadA (s.a &&& m)

/-- `A <- A OR M; SetNZ(A)` (R242). -/
def State.orA (s : State) (m : Byte) : State := s.loadA (s.a ||| m)

/-- `A <- A XOR M; SetNZ(A)` (R243). -/
def State.eorA (s : State) (m : Byte) : State := s.loadA (s.a ^^^ m)

/-- `BIT` with a memory operand (R244). -/
def State.bitA (s : State) (m : Byte) : State := s.setP (bitFlags s.p s.a m)

/-- `BIT #imm` (R244). -/
def State.bitImmA (s : State) (m : Byte) : State := s.setP (testFlags s.p s.a m)

/-- R241: AND IMM, 0x29. -/
def execAndImm (v : Byte) (s : State) : StepResult := readImm 0x29 v State.andA s

/-- R241: AND ZP, 0x25. -/
def execAndZp (z : Byte) (s : State) : StepResult := readMem 0x25 (.zp z) State.andA s

/-- R241: AND ZPX, 0x35. -/
def execAndZpx (z : Byte) (s : State) : StepResult := readMem 0x35 (.zpx z) State.andA s

/-- R241: AND ABS, 0x2D. -/
def execAndAbs (a : Addr) (s : State) : StepResult := readMem 0x2D (.abs a) State.andA s

/-- R241: AND ABSX, 0x3D. -/
def execAndAbsx (a : Addr) (s : State) : StepResult := readMem 0x3D (.absx a) State.andA s

/-- R241: AND ABSY, 0x39. -/
def execAndAbsy (a : Addr) (s : State) : StepResult := readMem 0x39 (.absy a) State.andA s

/-- R241: AND INDX, 0x21. -/
def execAndIndx (z : Byte) (s : State) : StepResult := readMem 0x21 (.indx z) State.andA s

/-- R241: AND INDY, 0x31. -/
def execAndIndy (z : Byte) (s : State) : StepResult := readMem 0x31 (.indy z) State.andA s

/-- R241: AND ZPI, 0x32, `CMOS65C02` only. -/
def execAndZpi (z : Byte) (s : State) : StepResult := cmosOnly 0x32 (readMem 0x32 (.zpi z) State.andA) s

/-- R242: ORA IMM, 0x09. -/
def execOraImm (v : Byte) (s : State) : StepResult := readImm 0x09 v State.orA s

/-- R242: ORA ZP, 0x05. -/
def execOraZp (z : Byte) (s : State) : StepResult := readMem 0x05 (.zp z) State.orA s

/-- R242: ORA ZPX, 0x15. -/
def execOraZpx (z : Byte) (s : State) : StepResult := readMem 0x15 (.zpx z) State.orA s

/-- R242: ORA ABS, 0x0D. -/
def execOraAbs (a : Addr) (s : State) : StepResult := readMem 0x0D (.abs a) State.orA s

/-- R242: ORA ABSX, 0x1D. -/
def execOraAbsx (a : Addr) (s : State) : StepResult := readMem 0x1D (.absx a) State.orA s

/-- R242: ORA ABSY, 0x19. -/
def execOraAbsy (a : Addr) (s : State) : StepResult := readMem 0x19 (.absy a) State.orA s

/-- R242: ORA INDX, 0x01. -/
def execOraIndx (z : Byte) (s : State) : StepResult := readMem 0x01 (.indx z) State.orA s

/-- R242: ORA INDY, 0x11. -/
def execOraIndy (z : Byte) (s : State) : StepResult := readMem 0x11 (.indy z) State.orA s

/-- R242: ORA ZPI, 0x12, `CMOS65C02` only. -/
def execOraZpi (z : Byte) (s : State) : StepResult := cmosOnly 0x12 (readMem 0x12 (.zpi z) State.orA) s

/-- R243: EOR IMM, 0x49. -/
def execEorImm (v : Byte) (s : State) : StepResult := readImm 0x49 v State.eorA s

/-- R243: EOR ZP, 0x45. -/
def execEorZp (z : Byte) (s : State) : StepResult := readMem 0x45 (.zp z) State.eorA s

/-- R243: EOR ZPX, 0x55. -/
def execEorZpx (z : Byte) (s : State) : StepResult := readMem 0x55 (.zpx z) State.eorA s

/-- R243: EOR ABS, 0x4D. -/
def execEorAbs (a : Addr) (s : State) : StepResult := readMem 0x4D (.abs a) State.eorA s

/-- R243: EOR ABSX, 0x5D. -/
def execEorAbsx (a : Addr) (s : State) : StepResult := readMem 0x5D (.absx a) State.eorA s

/-- R243: EOR ABSY, 0x59. -/
def execEorAbsy (a : Addr) (s : State) : StepResult := readMem 0x59 (.absy a) State.eorA s

/-- R243: EOR INDX, 0x41. -/
def execEorIndx (z : Byte) (s : State) : StepResult := readMem 0x41 (.indx z) State.eorA s

/-- R243: EOR INDY, 0x51. -/
def execEorIndy (z : Byte) (s : State) : StepResult := readMem 0x51 (.indy z) State.eorA s

/-- R243: EOR ZPI, 0x52, `CMOS65C02` only. -/
def execEorZpi (z : Byte) (s : State) : StepResult := cmosOnly 0x52 (readMem 0x52 (.zpi z) State.eorA) s

/-- R244: BIT IMM, 0x89, `CMOS65C02` only. -/
def execBitImm (v : Byte) (s : State) : StepResult := cmosOnly 0x89 (readImm 0x89 v State.bitImmA) s

/-- R244: BIT ZP, 0x24. -/
def execBitZp (z : Byte) (s : State) : StepResult := readMem 0x24 (.zp z) State.bitA s

/-- R244: BIT ZPX, 0x34, `CMOS65C02` only. -/
def execBitZpx (z : Byte) (s : State) : StepResult := cmosOnly 0x34 (readMem 0x34 (.zpx z) State.bitA) s

/-- R244: BIT ABS, 0x2C. -/
def execBitAbs (a : Addr) (s : State) : StepResult := readMem 0x2C (.abs a) State.bitA s

/-- R244: BIT ABSX, 0x3C, `CMOS65C02` only. -/
def execBitAbsx (a : Addr) (s : State) : StepResult := cmosOnly 0x3C (readMem 0x3C (.absx a) State.bitA) s

/-- R245: ASL ACC, 0x0A. -/
def execAslAcc (s : State) : StepResult := accumulator 0x0A (fun s => aslValue s.p) s

/-- R245: ASL ZP, 0x06. -/
def execAslZp (z : Byte) (s : State) : StepResult := rmwMem 0x06 (.zp z) (fun s => aslValue s.p) s

/-- R245: ASL ZPX, 0x16. -/
def execAslZpx (z : Byte) (s : State) : StepResult := rmwMem 0x16 (.zpx z) (fun s => aslValue s.p) s

/-- R245: ASL ABS, 0x0E. -/
def execAslAbs (a : Addr) (s : State) : StepResult := rmwMem 0x0E (.abs a) (fun s => aslValue s.p) s

/-- R245: ASL ABSX, 0x1E. -/
def execAslAbsx (a : Addr) (s : State) : StepResult := rmwMem 0x1E (.absx a) (fun s => aslValue s.p) s

/-- R246: LSR ACC, 0x4A. -/
def execLsrAcc (s : State) : StepResult := accumulator 0x4A (fun s => lsrValue s.p) s

/-- R246: LSR ZP, 0x46. -/
def execLsrZp (z : Byte) (s : State) : StepResult := rmwMem 0x46 (.zp z) (fun s => lsrValue s.p) s

/-- R246: LSR ZPX, 0x56. -/
def execLsrZpx (z : Byte) (s : State) : StepResult := rmwMem 0x56 (.zpx z) (fun s => lsrValue s.p) s

/-- R246: LSR ABS, 0x4E. -/
def execLsrAbs (a : Addr) (s : State) : StepResult := rmwMem 0x4E (.abs a) (fun s => lsrValue s.p) s

/-- R246: LSR ABSX, 0x5E. -/
def execLsrAbsx (a : Addr) (s : State) : StepResult := rmwMem 0x5E (.absx a) (fun s => lsrValue s.p) s

/-- R247: ROL ACC, 0x2A. -/
def execRolAcc (s : State) : StepResult := accumulator 0x2A (fun s => rolValue s.p) s

/-- R247: ROL ZP, 0x26. -/
def execRolZp (z : Byte) (s : State) : StepResult := rmwMem 0x26 (.zp z) (fun s => rolValue s.p) s

/-- R247: ROL ZPX, 0x36. -/
def execRolZpx (z : Byte) (s : State) : StepResult := rmwMem 0x36 (.zpx z) (fun s => rolValue s.p) s

/-- R247: ROL ABS, 0x2E. -/
def execRolAbs (a : Addr) (s : State) : StepResult := rmwMem 0x2E (.abs a) (fun s => rolValue s.p) s

/-- R247: ROL ABSX, 0x3E. -/
def execRolAbsx (a : Addr) (s : State) : StepResult := rmwMem 0x3E (.absx a) (fun s => rolValue s.p) s

/-- R248: ROR ACC, 0x6A. -/
def execRorAcc (s : State) : StepResult := accumulator 0x6A (fun s => rorValue s.p) s

/-- R248: ROR ZP, 0x66. -/
def execRorZp (z : Byte) (s : State) : StepResult := rmwMem 0x66 (.zp z) (fun s => rorValue s.p) s

/-- R248: ROR ZPX, 0x76. -/
def execRorZpx (z : Byte) (s : State) : StepResult := rmwMem 0x76 (.zpx z) (fun s => rorValue s.p) s

/-- R248: ROR ABS, 0x6E. -/
def execRorAbs (a : Addr) (s : State) : StepResult := rmwMem 0x6E (.abs a) (fun s => rorValue s.p) s

/-- R248: ROR ABSX, 0x7E. -/
def execRorAbsx (a : Addr) (s : State) : StepResult := rmwMem 0x7E (.absx a) (fun s => rorValue s.p) s

/-- R249: TRB ZP, 0x14, `CMOS65C02` only. -/
def execTrbZp (z : Byte) (s : State) : StepResult := cmosOnly 0x14 (rmwMem 0x14 (.zp z) (fun s => trbValue s.a s.p)) s

/-- R249: TRB ABS, 0x1C, `CMOS65C02` only. -/
def execTrbAbs (a : Addr) (s : State) : StepResult :=
  cmosOnly 0x1C (rmwMem 0x1C (.abs a) (fun s => trbValue s.a s.p)) s

/-- R250: TSB ZP, 0x04, `CMOS65C02` only. -/
def execTsbZp (z : Byte) (s : State) : StepResult := cmosOnly 0x04 (rmwMem 0x04 (.zp z) (fun s => tsbValue s.a s.p)) s

/-- R250: TSB ABS, 0x0C, `CMOS65C02` only. -/
def execTsbAbs (a : Addr) (s : State) : StepResult :=
  cmosOnly 0x0C (rmwMem 0x0C (.abs a) (fun s => tsbValue s.a s.p)) s

/-- R251: RMB0 ZP, 0x07, `CMOS65C02` only. -/
def execRmb0 (z : Byte) (s : State) : StepResult := cmosOnly 0x07 (rmwMem 0x07 (.zp z) (fun s => rmbValue 0 s.p)) s

/-- R251: RMB1 ZP, 0x17, `CMOS65C02` only. -/
def execRmb1 (z : Byte) (s : State) : StepResult := cmosOnly 0x17 (rmwMem 0x17 (.zp z) (fun s => rmbValue 1 s.p)) s

/-- R251: RMB2 ZP, 0x27, `CMOS65C02` only. -/
def execRmb2 (z : Byte) (s : State) : StepResult := cmosOnly 0x27 (rmwMem 0x27 (.zp z) (fun s => rmbValue 2 s.p)) s

/-- R251: RMB3 ZP, 0x37, `CMOS65C02` only. -/
def execRmb3 (z : Byte) (s : State) : StepResult := cmosOnly 0x37 (rmwMem 0x37 (.zp z) (fun s => rmbValue 3 s.p)) s

/-- R251: RMB4 ZP, 0x47, `CMOS65C02` only. -/
def execRmb4 (z : Byte) (s : State) : StepResult := cmosOnly 0x47 (rmwMem 0x47 (.zp z) (fun s => rmbValue 4 s.p)) s

/-- R251: RMB5 ZP, 0x57, `CMOS65C02` only. -/
def execRmb5 (z : Byte) (s : State) : StepResult := cmosOnly 0x57 (rmwMem 0x57 (.zp z) (fun s => rmbValue 5 s.p)) s

/-- R251: RMB6 ZP, 0x67, `CMOS65C02` only. -/
def execRmb6 (z : Byte) (s : State) : StepResult := cmosOnly 0x67 (rmwMem 0x67 (.zp z) (fun s => rmbValue 6 s.p)) s

/-- R251: RMB7 ZP, 0x77, `CMOS65C02` only. -/
def execRmb7 (z : Byte) (s : State) : StepResult := cmosOnly 0x77 (rmwMem 0x77 (.zp z) (fun s => rmbValue 7 s.p)) s

/-- R252: SMB0 ZP, 0x87, `CMOS65C02` only. -/
def execSmb0 (z : Byte) (s : State) : StepResult := cmosOnly 0x87 (rmwMem 0x87 (.zp z) (fun s => smbValue 0 s.p)) s

/-- R252: SMB1 ZP, 0x97, `CMOS65C02` only. -/
def execSmb1 (z : Byte) (s : State) : StepResult := cmosOnly 0x97 (rmwMem 0x97 (.zp z) (fun s => smbValue 1 s.p)) s

/-- R252: SMB2 ZP, 0xA7, `CMOS65C02` only. -/
def execSmb2 (z : Byte) (s : State) : StepResult := cmosOnly 0xA7 (rmwMem 0xA7 (.zp z) (fun s => smbValue 2 s.p)) s

/-- R252: SMB3 ZP, 0xB7, `CMOS65C02` only. -/
def execSmb3 (z : Byte) (s : State) : StepResult := cmosOnly 0xB7 (rmwMem 0xB7 (.zp z) (fun s => smbValue 3 s.p)) s

/-- R252: SMB4 ZP, 0xC7, `CMOS65C02` only. -/
def execSmb4 (z : Byte) (s : State) : StepResult := cmosOnly 0xC7 (rmwMem 0xC7 (.zp z) (fun s => smbValue 4 s.p)) s

/-- R252: SMB5 ZP, 0xD7, `CMOS65C02` only. -/
def execSmb5 (z : Byte) (s : State) : StepResult := cmosOnly 0xD7 (rmwMem 0xD7 (.zp z) (fun s => smbValue 5 s.p)) s

/-- R252: SMB6 ZP, 0xE7, `CMOS65C02` only. -/
def execSmb6 (z : Byte) (s : State) : StepResult := cmosOnly 0xE7 (rmwMem 0xE7 (.zp z) (fun s => smbValue 6 s.p)) s

/-- R252: SMB7 ZP, 0xF7, `CMOS65C02` only. -/
def execSmb7 (z : Byte) (s : State) : StepResult := cmosOnly 0xF7 (rmwMem 0xF7 (.zp z) (fun s => smbValue 7 s.p)) s

end Sys2Proof.Machine
end

