-- ==== Sys2Proof/Machine/StackFlags.lean ====
section
/-! DEFINITION. Stack and flag instructions (45_stack_flags.md R290 to R305), one meaning for each row. -/

namespace Sys2Proof.Machine

/-- R291: PHA IMP, 0x48. -/
def execPha (s : State) : StepResult := pushByte 0x48 State.a s

/-- R292: PHP IMP, 0x08. -/
def execPhp (s : State) : StepResult := pushByte 0x08 (fun s => s.p ||| s.cfg.phpOrMask) s

/-- R293: PLA IMP, 0x68. -/
def execPla (s : State) : StepResult := pullByte 0x68 State.loadA s

/-- R294: PLP IMP, 0x28. -/
def execPlp (s : State) : StepResult := pullByte 0x28 State.setP s

/-- R295: PHX IMP, 0xDA, `CMOS65C02` only. -/
def execPhx (s : State) : StepResult := cmosOnly 0xDA (pushByte 0xDA State.x) s

/-- R296: PHY IMP, 0x5A, `CMOS65C02` only. -/
def execPhy (s : State) : StepResult := cmosOnly 0x5A (pushByte 0x5A State.y) s

/-- R297: PLX IMP, 0xFA, `CMOS65C02` only. -/
def execPlx (s : State) : StepResult := cmosOnly 0xFA (pullByte 0xFA State.loadX) s

/-- R298: PLY IMP, 0x7A, `CMOS65C02` only. -/
def execPly (s : State) : StepResult := cmosOnly 0x7A (pullByte 0x7A State.loadY) s

/-- R299: CLC IMP, 0x18. -/
def execClc (s : State) : StepResult := implied 0x18 (fun s => s.putFlag .c false) s

/-- R300: CLD IMP, 0xD8. -/
def execCld (s : State) : StepResult := implied 0xD8 (fun s => s.putFlag .d false) s

/-- R301: CLI IMP, 0x58. -/
def execCli (s : State) : StepResult := implied 0x58 (fun s => s.putFlag .i false) s

/-- R302: CLV IMP, 0xB8. -/
def execClv (s : State) : StepResult := implied 0xB8 (fun s => s.putFlag .v false) s

/-- R303: SEC IMP, 0x38. -/
def execSec (s : State) : StepResult := implied 0x38 (fun s => s.putFlag .c true) s

/-- R304: SED IMP, 0xF8. -/
def execSed (s : State) : StepResult := implied 0xF8 (fun s => s.putFlag .d true) s

/-- R305: SEI IMP, 0x78. -/
def execSei (s : State) : StepResult := implied 0x78 (fun s => s.putFlag .i true) s

end Sys2Proof.Machine
end

