-- ==== Sys2Proof/Machine/RunLoop.lean ====
section
/-! DEFINITION. The body of the run loop (40_dispatch.md R160 to R163): one instruction from its opcode fetch to its end. -/

namespace Sys2Proof.Machine

/-- `Step()` (R161, R162): fetch the opcode, look it up in the table of the model, execute its handler. -/
def stepInstr (s : State) : StepResult :=
  match fetchByte s with
  | .error f s' => .next (takeFault f s')
  | .ok op s' =>
    match decode s'.cfg.model s.fetchWindow with
    | .ok (i, _) => exec i s'
    | .error _ => .next (takeFault (.illegalOpcode op (s'.pc - 1)) s')

end Sys2Proof.Machine
end

