-- ==== Sys2Proof/Machine/Step.lean ====
section
/-! DEFINITION. One step of the machine: while a run is in progress one instruction (40_dispatch.md R160, R161, R162), else
one host command (00_scope.md R8: "the host (which issues commands while the engine is idle)"). -/

namespace Sys2Proof.Machine

/-- One step. A state whose configuration construction refuses is no machine (R360). -/
def step (s : State) : Host.Outcome State Fault Refusal :=
  match Backend.check s.cfg.backend with
  | some p => .fault (.configError p)
  | none =>
    match s.status with
    | .running => stepInstr s
    | .idle | .halted | .faulted | .closed => .next (hostStep s)

/-- The program's first instruction put where the next step fetches it: its bytes at PC, and, unless a run is in progress,
`run(PC)` begun (log entry 4). -/
def State.withFetchWord (s : State) (nbits w : Nat) : State := s.placeFirst (wordBytes nbits w)

end Sys2Proof.Machine
end

