-- ==== Sys2Proof/WellFormed.lean ====
section
/-! DEFINITION. Which instructions are well-formed for a CPU model. Every operand field holds exactly the values its
encoding admits (a byte or a 16-bit word, R141), so the one thing left to check is the model: an instruction whose opcode
has no entry in the model's table is not an instruction of that model (30_encoding.md R146, R148). -/

namespace Sys2Proof

/-- The instruction exists on model `m`: its opcode has an entry in the table the tag selects (R146). -/
def WellFormed (m : CpuModel) (i : Instr) : Bool := legalOpcode m i.opcode

end Sys2Proof
end

