-- ==== Sys2Proof/Safety.lean ====
section
/-! DEFINITION. The terms statements about instructions, steps and runs use: readable and storable places, where an
instruction stores, an invariant of the machine, and what it is for a step to be free of faults. -/

namespace Sys2Proof.Machine

/-- Every address of a list resolves (20_memory.md R65): loads of them all succeed. -/
def State.allReadable (s : State) (addrs : List Addr) : Prop := ∀ a ∈ addrs, s.readable a = true

/-- A store to `a` reaches the backend, since no sink is registered there, and its physical byte is `ph` (R66, R102). -/
def State.storesTo (s : State) (a : Addr) (ph : Phys) : Prop := s.sinkAt a = none ∧ s.resolve a = some ph

/-- The addresses an instruction stores to, in order: its effective address, or the stack bytes it pushes. -/
def State.storeAddrs (s : State) (i : Instr) : List Addr :=
  match i.mnemonic with
  | .sta | .stx | .sty | .stz | .inc | .dec | .asl | .lsr | .rol | .ror | .trb | .tsb | .rmb _ | .smb _ =>
    match i.operand with
    | .mem m => [(s.ea m).addr]
    | .imp | .acc | .imm _ | .ind _ | .aix _ | .rel _ | .zprel _ _ => []
  | .pha | .php | .phx | .phy => [stackAddr s.sp]
  | .jsr => [stackAddr s.sp, stackAddr (s.sp - 1)]
  | .lda | .ldx | .ldy | .tax | .tay | .txa | .tya | .tsx | .txs | .adc | .sbc | .cmp | .cpx | .cpy | .inx | .iny
  | .dex | .dey | .and | .ora | .eor | .bit | .bpl | .bmi | .bvc | .bvs | .bcc | .bcs | .bne | .beq | .bra | .bbr _
  | .bbs _ | .jmp | .rts | .rti | .brk | .nop | .pla | .plp | .plx | .ply | .clc | .cld | .cli | .clv | .sec | .sed
  | .sei => []

/-- `t` is a state instruction `i` may end in from `s` when, after the loads `loads`, its one store puts `v` at `a`, where
`sink` is registered (20_memory.md R102 to R104, 60_exceptions.md R314): the sink has been called with the byte, the backend
has changed by what the sink did and by nothing else, and either the run ended with the sink's failure or the instruction
completed with SP `sp`, P `p` and the other registers as they were. -/
def State.afterSinkStore (s : State) (i : Instr) (loads : List Addr) (timing : Timing) (sink : Nat) (a : Addr) (v : Byte)
    (sp p : Byte) (t : State) : Prop :=
  let did := (Config.sinkEffect s.draws).accesses.foldl State.sinkAccess (s.counted loads)
  t.mem = did.mem ∧ t.counts = did.counts ∧ (s.sinkCalls ++ [.write sink a v]) <+: t.sinkCalls ∧
    ((t.status = .faulted ∧ t.fault = some (.sinkFailure a v)) ∨
      (t.status = s.status ∧ t.fault = s.fault ∧ t.a = s.a ∧ t.x = s.x ∧ t.y = s.y ∧ t.sp = sp ∧ t.p = p ∧
        t.pc = s.nextPc i ∧ t.cycles = s.cycles + BitVec.ofNat 64 (instrCost s.cfg i.opcode timing)))

/-- What the store of `v` to `a` comes to (20_memory.md R66, R102 to R104): the fault it raises, if any, and the state it leaves.
At an address with a sink the sink is called with the byte and does what it does (log entry 6); else the byte goes to the
backend, where an address out of range takes nothing. -/
def State.stored (s : State) (a : Addr) (v : Byte) : Option FaultRecord × State :=
  match s.sinkAt a with
  | some sink =>
    (if (Config.sinkEffect s.draws).fails then some (.sinkFailure a v) else none,
      (Config.sinkEffect s.draws).accesses.foldl State.sinkAccess
        { s with draws := s.draws + 1, sinkCalls := s.sinkCalls ++ [.write sink a v] })
  | none =>
    match s.resolve a with
    | some ph =>
      (none, { s with mem := s.mem.write ph v, counts := s.counts.write ph (s.counts.read ph + 1) })
    | none => (some (.outOfRange a .store), s)

/-- A cell of the timing table (70_reset_and_hazards.md R382), by its column: the base on `NMOS6502` and on `CMOS65C02` and the
penalty class. Where the table has a cell on `CMOS65C02` only, both figures are that one. -/
def timingCell (m : Mnemonic) (o : Operand) : Nat × Nat × PenaltyClass :=
  let shifts := [Mnemonic.asl, .lsr, .rol, .ror]
  let steps := [Mnemonic.inc, .dec]
  match o with
  | .imp =>
    if m = .brk then (7, 7, .none)
    else if m ∈ [.pha, .php, .phx, .phy] then (3, 3, .none)
    else if m ∈ [.pla, .plp, .plx, .ply] then (4, 4, .none)
    else if m ∈ [.rts, .rti] then (6, 6, .none)
    else (2, 2, .none)
  | .acc | .imm _ => (2, 2, .none)
  | .mem (.zp _) =>
    if m ∈ shifts ++ steps ++ [.trb, .tsb] ∨ (∃ b, m = .rmb b) ∨ (∃ b, m = .smb b) then (5, 5, .none) else (3, 3, .none)
  | .mem (.zpx _) => if m ∈ shifts ++ steps then (6, 6, .none) else (4, 4, .none)
  | .mem (.zpy _) => (4, 4, .none)
  | .mem (.abs _) =>
    if m = .jmp then (3, 3, .none)
    else if m ∈ shifts ++ steps ++ [.trb, .tsb, .jsr] then (6, 6, .none)
    else (4, 4, .none)
  | .mem (.absx _) =>
    if m ∈ shifts then (7, 6, .c02page)
    else if m ∈ steps then (7, 7, .none)
    else if m ∈ [.sta, .stz] then (5, 5, .none)
    else (4, 4, .page)
  | .mem (.absy _) => if m = .sta then (5, 5, .none) else (4, 4, .page)
  | .mem (.indx _) => (6, 6, .none)
  | .mem (.indy _) => if m = .sta then (6, 6, .none) else (5, 5, .page)
  | .mem (.zpi _) => (5, 5, .none)
  | .ind _ => (5, 6, .none)
  | .aix _ => (6, 6, .none)
  | .rel _ => (2, 2, .branch)
  | .zprel _ _ => (5, 5, .bitbranch)

/-- The step answers a state, and not by taking a fault. -/
def stepSafe (s : State) : Prop := ∃ t, step s = .next t ∧ t.status ≠ .faulted

/-- `k` steps, none of which takes a fault. -/
def runSafe : Nat → State → Prop
  | 0, _ => True
  | k + 1, s => ∃ t, step s = .next t ∧ t.status ≠ .faulted ∧ runSafe k t

/-- FAULT and the status agree (10_state.md R42, R43): a `Faulted` engine keeps the record of the fault; an engine that has
not faulted in its last run has none. After `close` either may be. -/
def faultRecordAgrees (s : State) : Prop :=
  match s.status with
  | .faulted => s.fault ≠ none
  | .idle | .running | .halted => s.fault = none
  | .closed => True

/-- A store of bytes is in canonical form and lies inside the arrays of the backend (R45). -/
def memorySound {w : Nat} (b : Backend) (m : Arrays w) : Prop := m.wf = true ∧ Arrays.within b m = true

/-- The invariant of the machine: memory, counters and snapshot canonical and inside the arrays the configuration gives,
and FAULT in agreement with the status. -/
structure Inv (s : State) : Prop where
  mem    : memorySound s.cfg.backend s.mem
  counts : memorySound s.cfg.backend s.counts
  snap   : ∀ m, s.snap = some m → memorySound s.cfg.backend m
  fault  : faultRecordAgrees s

end Sys2Proof.Machine
end

