-- ==== Sys2Proof/Certificates/Slice0/Obligations.lean ====
section
/-! DEFINITION. The statements for the provers. `s.past i addrs timing` is the state past instruction `i`: the loads `addrs`
counted, PC past the instruction, its cost added to CYCLES, and nothing else changed; a result statement gives the whole
next state as that state with the fields the instruction's rule writes. In every statement about `exec`, PC is past the
opcode, which `step` has fetched. -/

open Sys2Proof Sys2Proof.Machine

/-! ## Encoding and decoding (30_encoding.md) -/

/-- R141, R142, R147: no bit of an encoding is dropped, on either model, whatever bytes follow. -/
def Obligations.decode_of_encode_is_the_instruction : Prop :=
  ∀ (m : CpuModel) (i : Instr) (rest : List Byte), WellFormed m i = true → decode m (encode i ++ rest) = .ok (i, rest)

/-- R141, R144, R146: what decodes is a legal instruction of the model, and the bytes are its encoding. -/
def Obligations.what_decodes_is_well_formed_and_its_encoding : Prop :=
  ∀ (m : CpuModel) (i : Instr) (bytes rest : List Byte), decode m bytes = .ok (i, rest) →
    WellFormed m i = true ∧ bytes = encode i ++ rest

/-- R153 and words of R147, written out byte by byte; R148 for the opcode that is illegal on one model; and R143: the opcodes of
the bit instructions carry the bit number in bits 6:4, bit 7 telling RMB and BBR from SMB and BBS. That two bytes of a STA abs
are refused as truncated is the model's choice (log entry 23): no rule speaks of a list that ends too soon. -/
def Obligations.written_words_decode_as_the_map_says : Prop :=
  (∀ m : CpuModel, decode m [0xA9, 0x42, 0x00] = .ok (.ldaImm 0x42, [0x00]) ∧ decode m [0x00] = .ok (.brk, []) ∧
    decode m [0x6C, 0xFF, 0x30] = .ok (.jmpInd 0x30FF, []) ∧ decode m [0x91, 0x10] = .ok (.staIndy 0x10, []) ∧
    decode m [0xD0, 0xFB, 0xEA] = .ok (.bne 0xFB, [0xEA]) ∧ decode m [0x8D, 0x00] = .error (.truncated 0x8D)) ∧
  decode .cmos65c02 [0x77, 0x10] = .ok (.rmb7 0x10, []) ∧
  decode .cmos65c02 [0x8F, 0x10, 0x03] = .ok (.bbs0 0x10 0x03, []) ∧
  decode .nmos6502 [0x8F, 0x10, 0x03] = .error (.illegalOpcode 0x8F) ∧
  (∀ (i : Instr) (b : Fin 8),
    (i.mnemonic = .rmb b → i.opcode.toNat = 0x07 + 0x10 * b.val) ∧
    (i.mnemonic = .smb b → i.opcode.toNat = 0x87 + 0x10 * b.val) ∧
    (i.mnemonic = .bbr b → i.opcode.toNat = 0x0F + 0x10 * b.val) ∧
    (i.mnemonic = .bbs b → i.opcode.toNat = 0x8F + 0x10 * b.val))

/-- R149, R150: the opcodes that no instruction of a model has are the 105 and the 46 listed values. -/
def Obligations.illegal_opcodes_are_the_listed_ones : Prop :=
  (∀ op : Byte, (∀ i : Instr, WellFormed .nmos6502 i = true → i.opcode ≠ op) ↔
    op ∈ ([0x02, 0x03, 0x04, 0x07, 0x0B, 0x0C, 0x0F, 0x12, 0x13, 0x14, 0x17, 0x1A, 0x1B, 0x1C, 0x1F, 0x22, 0x23,
      0x27, 0x2B, 0x2F, 0x32, 0x33, 0x34, 0x37, 0x3A, 0x3B, 0x3C, 0x3F, 0x42, 0x43, 0x44, 0x47, 0x4B, 0x4F, 0x52,
      0x53, 0x54, 0x57, 0x5A, 0x5B, 0x5C, 0x5F, 0x62, 0x63, 0x64, 0x67, 0x6B, 0x6F, 0x72, 0x73, 0x74, 0x77, 0x7A] ++
      [0x7B, 0x7C, 0x7F, 0x80, 0x82, 0x83, 0x87, 0x89, 0x8B, 0x8F, 0x92, 0x93, 0x97, 0x9B, 0x9C, 0x9E, 0x9F, 0xA3,
      0xA7, 0xAB, 0xAF, 0xB2, 0xB3, 0xB7, 0xBB, 0xBF, 0xC2, 0xC3, 0xC7, 0xCB, 0xCF, 0xD2, 0xD3, 0xD4, 0xD7, 0xDA,
      0xDB, 0xDC, 0xDF, 0xE2, 0xE3, 0xE7, 0xEB, 0xEF, 0xF2, 0xF3, 0xF4, 0xF7, 0xFA, 0xFB, 0xFC, 0xFF] : List Byte)) ∧
  (∀ op : Byte, (∀ i : Instr, WellFormed .cmos65c02 i = true → i.opcode ≠ op) ↔
    op ∈ ([0x02, 0x03, 0x0B, 0x13, 0x1B, 0x22, 0x23, 0x2B, 0x33, 0x3B, 0x42, 0x43, 0x44, 0x4B, 0x53, 0x54, 0x5B,
      0x5C, 0x62, 0x63, 0x6B, 0x73, 0x7B, 0x82, 0x83, 0x8B, 0x93, 0x9B, 0xA3, 0xAB, 0xB3, 0xBB, 0xC2, 0xC3, 0xCB,
      0xD3, 0xD4, 0xDB, 0xDC, 0xE2, 0xE3, 0xEB, 0xF3, 0xF4, 0xFB, 0xFC] : List Byte))

/-! ## One step of a run, and faults (40_dispatch.md, 60_exceptions.md) -/

/-- R161, R162, R163: during a run, where the bytes at PC are those of a legal instruction of the model, the step is `exec`
of that instruction in the state whose opcode fetch has been counted and whose PC is past the opcode. -/
def Obligations.step_runs_the_decoded_instruction : Prop :=
  ∀ (i : Instr) (s : State), Backend.check s.cfg.backend = none → s.status = .running →
    s.readable s.pc = true → WellFormed s.cfg.model i = true →
    (∀ k : Nat, k < i.length → (encode i)[k]? = some (s.peek (s.pc + BitVec.ofNat 16 k))) →
    step s = exec i { s.counted [s.pc] with pc := s.pc + 1 }

/-- R162, R311: an opcode that no instruction of the model has is a fault, raised after the counted opcode fetch and before
any other access, with the opcode and its address; and R161, R312: an opcode fetch out of range is a fault that counts
nothing. -/
def Obligations.step_faults_on_illegal_or_unreadable_opcode : Prop :=
  ∀ s : State, Backend.check s.cfg.backend = none → s.status = .running →
    (s.readable s.pc = true → (∀ i : Instr, WellFormed s.cfg.model i = true → i.opcode ≠ s.peek s.pc) →
      step s = .next (takeFault (.illegalOpcode (s.peek s.pc) s.pc) (s.counted [s.pc]))) ∧
    (s.readable s.pc = false → step s = .next (takeFault (.outOfRange s.pc .load) s))

/-- R310, R43, R58: taking a fault sets FAULT and the status, gives the failure to the host, keeps every memory byte, every
counter and the snapshot, and pushes nothing. The registers, PC and CYCLES are free, and the statement says nothing of them. -/
def Obligations.taking_a_fault_records_it_and_keeps_memory : Prop :=
  ∀ (f : FaultRecord) (s : State),
    (takeFault f s).status = .faulted ∧ (takeFault f s).fault = some f ∧
    (takeFault f s).replies = s.replies ++ [.failure f] ∧ (takeFault f s).mem = s.mem ∧
    (takeFault f s).counts = s.counts ∧ (takeFault f s).snap = s.snap ∧ (takeFault f s).cfg = s.cfg ∧
    (takeFault f s).sinkCalls = s.sinkCalls ∧ (takeFault f s).commands = s.commands

/-- R146, R149, R311: on `NMOS6502` every instruction that `CMOS65C02` alone has takes the illegal-opcode fault, with its
opcode and the opcode's address, and has no other effect. -/
def Obligations.cmos_only_instruction_is_illegal_on_nmos : Prop :=
  ∀ (i : Instr) (s : State), s.cfg.model = .nmos6502 → WellFormed .nmos6502 i = false →
    exec i s = .next (takeFault (.illegalOpcode i.opcode (s.pc - 1)) s)

/-- R200, R240, R312, R315, R18: an operand byte, pointer byte or data access that does not resolve is the out-of-range fault
of that address and kind, after the counts of the loads before it and with no other effect. The instruction's own order of
accesses decides: operand and pointer bytes, then the data access, which is a load for the Read and RMW classes and a store for
the Write class, then the stack. R270, R271: a taken BBRb or BBSb fetches its offset after the zero-page byte. R273, R274, R275,
R290: where a later pull or the second push does not resolve, the earlier ones stay done. -/
def Obligations.access_out_of_range_takes_its_fault : Prop :=
  (∀ (i : Instr) (s : State) (before after : List Addr) (b : Addr), WellFormed s.cfg.model i = true →
    (∀ r : Byte, i.operand ≠ .rel r) → s.operandReads i.operand = before ++ b :: after → s.allReadable before →
    s.readable b = false →
    exec i s = .next (takeFault (.outOfRange b .load) (s.counted before))) ∧
  (∀ (i : Instr) (s : State) (m : MemMode), i.operand = .mem m → WellFormed s.cfg.model i = true →
    s.allReadable (s.modeReads m) → s.readable (s.ea m).addr = false →
    (i.mnemonic ∈ [.sta, .stx, .sty, .stz] → s.sinkAt (s.ea m).addr = none →
      exec i s = .next (takeFault (.outOfRange (s.ea m).addr .store) (s.counted (s.modeReads m)))) ∧
    (i.mnemonic ∈ [.lda, .ldx, .ldy, .adc, .sbc, .cmp, .cpx, .cpy, .and, .ora, .eor, .bit, .inc, .dec, .asl, .lsr,
        .rol, .ror, .trb, .tsb] ∨ (∃ b, i.mnemonic = .rmb b ∨ i.mnemonic = .smb b) →
      exec i s = .next (takeFault (.outOfRange (s.ea m).addr .load) (s.counted (s.modeReads m))))) ∧
  (∀ (i : Instr) (s : State),
    (i.mnemonic, true) ∈ [(Mnemonic.bpl, !flag s.p .n), (.bmi, flag s.p .n), (.bvc, !flag s.p .v),
      (.bvs, flag s.p .v), (.bcc, !flag s.p .c), (.bcs, flag s.p .c), (.bne, !flag s.p .z), (.beq, flag s.p .z),
      (.bra, true)] →
    WellFormed s.cfg.model i = true → s.readable s.pc = false →
    exec i s = .next (takeFault (.outOfRange s.pc .load) s)) ∧
  (∀ (i : Instr) (s : State) (b : Fin 8) (z r : Byte), i.operand = .zprel z r → WellFormed s.cfg.model i = true →
    s.allReadable [s.pc, w16 0 z] → s.readable (s.pc + 1) = false →
    (i.mnemonic = .bbr b ∧ (s.peek (w16 0 z)).getLsbD b.val = false ∨
      i.mnemonic = .bbs b ∧ (s.peek (w16 0 z)).getLsbD b.val = true) →
    exec i s = .next (takeFault (.outOfRange (s.pc + 1) .load) (s.counted [s.pc, w16 0 z]))) ∧
  (∀ (i : Instr) (s : State), WellFormed s.cfg.model i = true →
    (i ∈ [Instr.pla, .plp, .plx, .ply, .rts, .rti] → s.readable (w16 0x01 (s.sp + 1)) = false →
      exec i s = .next (takeFault (.outOfRange (w16 0x01 (s.sp + 1)) .load) s)) ∧
    (i ∈ [Instr.pha, .php, .phx, .phy] → s.sinkAt (w16 0x01 s.sp) = none → s.readable (w16 0x01 s.sp) = false →
      exec i s = .next (takeFault (.outOfRange (w16 0x01 s.sp) .store) s)) ∧
    (∀ a : Addr, i = .jsr a → s.allReadable [s.pc, s.pc + 1] → s.sinkAt (w16 0x01 s.sp) = none →
      s.readable (w16 0x01 s.sp) = false →
      exec i s = .next (takeFault (.outOfRange (w16 0x01 s.sp) .store) (s.counted [s.pc, s.pc + 1])))) ∧
  (∀ s : State,
    let pull := fun n : Byte => w16 0x01 (s.sp + n)
    (∀ i ∈ [Instr.rts, .rti], s.readable (pull 1) = true → s.readable (pull 2) = false →
      exec i s = .next (takeFault (.outOfRange (pull 2) .load) (s.counted [pull 1]))) ∧
    (s.allReadable [pull 1, pull 2] → s.readable (pull 3) = false →
      exec .rti s = .next (takeFault (.outOfRange (pull 3) .load) (s.counted [pull 1, pull 2]))) ∧
    (∀ (a : Addr) (ph : Phys), s.allReadable [s.pc, s.pc + 1] → s.storesTo (w16 0x01 s.sp) ph →
      s.sinkAt (w16 0x01 (s.sp - 1)) = none → s.readable (w16 0x01 (s.sp - 1)) = false →
      let t := s.counted [s.pc, s.pc + 1]
      exec (.jsr a) s = .next (takeFault (.outOfRange (w16 0x01 (s.sp - 1)) .store)
        { t with mem := s.mem.write ph (hi8 (s.pc + 1)), counts := t.counts.write ph (t.counts.read ph + 1) })))

/-! ## Loads, stores and transfers (41_load_store_transfer.md) -/

/-- R201, R202, R203: LDA, LDX and LDY in every mode. -/
def Obligations.loads_write_register_and_nz : Prop :=
  ∀ (i : Instr) (s : State), WellFormed s.cfg.model i = true → s.allReadable (s.dataReads i.operand) →
    let v := s.operandValue i.operand
    let t := s.past i (s.dataReads i.operand) { cross := s.operandCross i.operand }
    (i.mnemonic = .lda → exec i s = .next { t with a := v, p := setNZ s.p v }) ∧
    (i.mnemonic = .ldx → exec i s = .next { t with x := v, p := setNZ s.p v }) ∧
    (i.mnemonic = .ldy → exec i s = .next { t with y := v, p := setNZ s.p v })

/-- R204 to R207: STA, STX, STY and STZ in every mode, at an address with no sink: one store, no load of the effective
address, no flag. -/
def Obligations.stores_write_one_byte_and_no_flag : Prop :=
  ∀ (i : Instr) (s : State) (m : MemMode) (v : Byte) (ph : Phys),
    (i.mnemonic, v) ∈ [(Mnemonic.sta, s.a), (.stx, s.x), (.sty, s.y), (.stz, 0x00)] → i.operand = .mem m →
    WellFormed s.cfg.model i = true → s.allReadable (s.modeReads m) → s.storesTo (s.ea m).addr ph →
    let t := s.past i (s.modeReads m) { cross := (s.ea m).cross }
    exec i s = .next { t with mem := s.mem.write ph v, counts := t.counts.write ph (t.counts.read ph + 1) }

/-- R102, R103, R104, R314: a store, an RMW instruction and a push whose byte goes to an address with a sink: the sink is
called with the byte, the backend changes by what the sink does and by nothing else, and either the run ends with the sink's
failure or the instruction completes. What the sink does and whether it fails is free (log entry 6). R273, R373: JSR, whichever
of its two stack addresses has a sink: the high byte is stored first, and the store of the low byte happens in the state that
leaves, unless a fault has ended the run before it. -/
def Obligations.store_to_sink_calls_the_sink : Prop :=
  (∀ (i : Instr) (s : State) (m : MemMode) (v : Byte) (sink : Nat),
    (i.mnemonic, v) ∈ [(Mnemonic.sta, s.a), (.stx, s.x), (.sty, s.y), (.stz, 0x00)] → i.operand = .mem m →
    WellFormed s.cfg.model i = true → s.allReadable (s.modeReads m) → s.sinkAt (s.ea m).addr = some sink →
    ∃ t : State, exec i s = .next t ∧
      s.afterSinkStore i (s.modeReads m) { cross := (s.ea m).cross } sink (s.ea m).addr v s.sp s.p t) ∧
  (∀ (i : Instr) (s : State) (m : MemMode) (r : Byte × Byte) (sink : Nat),
    let v := s.peek (s.ea m).addr
    (i.mnemonic, r) ∈ [(Mnemonic.inc, incValue s.p v), (.dec, decValue s.p v), (.asl, aslValue s.p v),
        (.lsr, lsrValue s.p v), (.rol, rolValue s.p v), (.ror, rorValue s.p v), (.trb, trbValue s.a s.p v),
        (.tsb, tsbValue s.a s.p v)] ++
      (List.finRange 8).flatMap (fun b => [(Mnemonic.rmb b, rmbValue b s.p v), (.smb b, smbValue b s.p v)]) →
    i.operand = .mem m → WellFormed s.cfg.model i = true → s.allReadable (s.modeReads m ++ [(s.ea m).addr]) →
    s.sinkAt (s.ea m).addr = some sink →
    ∃ t : State, exec i s = .next t ∧
      s.afterSinkStore i (s.modeReads m ++ [(s.ea m).addr]) { cross := (s.ea m).cross } sink (s.ea m).addr r.1 s.sp r.2
        t) ∧
  (∀ (i : Instr) (s : State) (v : Byte) (sink : Nat),
    (i, v) ∈ [(Instr.pha, s.a), (.php, s.p ||| s.cfg.phpOrMask), (.phx, s.x), (.phy, s.y)] →
    WellFormed s.cfg.model i = true → s.sinkAt (w16 0x01 s.sp) = some sink →
    ∃ t : State, exec i s = .next t ∧ s.afterSinkStore i [] {} sink (w16 0x01 s.sp) v (s.sp - 1) s.p t) ∧
  (∀ (a : Addr) (s : State), s.allReadable [s.pc, s.pc + 1] →
    s.sinkAt (w16 0x01 s.sp) ≠ none ∨ s.sinkAt (w16 0x01 (s.sp - 1)) ≠ none →
    let high := (s.counted [s.pc, s.pc + 1]).stored (w16 0x01 s.sp) (hi8 (s.pc + 1))
    let low := high.2.stored (w16 0x01 (s.sp - 1)) (lo8 (s.pc + 1))
    (∀ f : FaultRecord, high.1 = some f → exec (.jsr a) s = .next (takeFault f high.2)) ∧
    (∀ f : FaultRecord, high.1 = none → low.1 = some f → exec (.jsr a) s = .next (takeFault f low.2)) ∧
    (high.1 = none → low.1 = none →
      exec (.jsr a) s = .next
        { low.2 with
          sp := s.sp - 2
          pc := a
          cycles := s.cycles + BitVec.ofNat 64 (instrCost s.cfg (Instr.jsr a).opcode {}) }))

/-- R208 to R213: the register transfers; TXS alone writes no flag. -/
def Obligations.transfers_copy_a_register : Prop :=
  ∀ s : State,
    exec .tax s = .next { s.past .tax [] {} with x := s.a, p := setNZ s.p s.a } ∧
    exec .tay s = .next { s.past .tay [] {} with y := s.a, p := setNZ s.p s.a } ∧
    exec .txa s = .next { s.past .txa [] {} with a := s.x, p := setNZ s.p s.x } ∧
    exec .tya s = .next { s.past .tya [] {} with a := s.y, p := setNZ s.p s.y } ∧
    exec .tsx s = .next { s.past .tsx [] {} with x := s.sp, p := setNZ s.p s.sp } ∧
    exec .txs s = .next { s.past .txs [] {} with sp := s.x }

/-! ## Arithmetic (42_arithmetic.md) -/

/-- R221, R222 with R189, R190: ADC and SBC in binary mode, in every mode of addressing. SBC adds the one's complement. -/
def Obligations.adc_sbc_binary_result_and_flags : Prop :=
  ∀ (i : Instr) (s : State) (m : Byte),
    (i.mnemonic, m) ∈ [(Mnemonic.adc, s.operandValue i.operand), (.sbc, ~~~(s.operandValue i.operand))] →
    WellFormed s.cfg.model i = true → s.allReadable (s.dataReads i.operand) → flag s.p .d = false →
    let sum := s.a.toNat + m.toNat + (if flag s.p .c then 1 else 0)
    let r := BitVec.ofNat 8 sum
    exec i s = .next
      { s.past i (s.dataReads i.operand) { cross := s.operandCross i.operand } with
        a := r
        p := setNZ (setFlag (setFlag s.p .c (decide (256 ≤ sum))) .v ((s.a ^^^ r) &&& (m ^^^ r) &&& 0x80 != 0)) r }

/-- R221, R222 with R191 to R193: ADC and SBC in decimal mode on BCD operands. A and C are as computed, D, I, B and bit 5 as
before; N, Z and V are free (log entry 7), and the statement says nothing of them. -/
def Obligations.adc_sbc_decimal_result_and_carry : Prop :=
  ∀ (i : Instr) (s : State), WellFormed s.cfg.model i = true → s.allReadable (s.dataReads i.operand) →
    flag s.p .d = true → isBCD s.a = true → isBCD (s.operandValue i.operand) = true →
    let dec := fun v : Byte => 10 * (v.toNat / 16) + v.toNat % 16
    let enc := fun n : Nat => BitVec.ofNat 8 (16 * (n / 10) + n % 10)
    let a := dec s.a
    let m := dec (s.operandValue i.operand)
    let carry := if flag s.p .c then 1 else 0
    let t := s.past i (s.dataReads i.operand) { cross := s.operandCross i.operand, decimal := true }
    (i.mnemonic = .adc → ∃ p : Byte, ∃ n : Nat,
      exec i s = .next { t with a := enc ((a + m + carry) % 100), p := p, draws := n } ∧
      flag p .c = decide (100 ≤ a + m + carry) ∧
      ∀ f ∈ [Flag.d, .i, .b, .u], flag p f = flag s.p f) ∧
    (i.mnemonic = .sbc → ∃ p : Byte, ∃ n : Nat,
      exec i s = .next { t with a := enc ((a + 100 - m - (1 - carry)) % 100), p := p, draws := n } ∧
      flag p .c = decide (m + (1 - carry) ≤ a) ∧
      ∀ f ∈ [Flag.d, .i, .b, .u], flag p f = flag s.p f)

/-- R313, R191: in decimal mode an operand or an accumulator with a nibble above 9 is a fault, after the operand has been
read and counted, whichever addressing mode. -/
def Obligations.invalid_bcd_operand_faults : Prop :=
  ∀ (i : Instr) (s : State), i.mnemonic ∈ [.adc, .sbc] → WellFormed s.cfg.model i = true →
    s.allReadable (s.dataReads i.operand) → flag s.p .d = true →
    (9 < s.a.toNat / 16 ∨ 9 < s.a.toNat % 16 ∨ 9 < (s.operandValue i.operand).toNat / 16 ∨
      9 < (s.operandValue i.operand).toNat % 16) →
    exec i s = .next (takeFault (.invalidBCD s.a (s.operandValue i.operand)) (s.counted (s.dataReads i.operand)))

/-- R223 to R225 with R194: CMP, CPX and CPY write C, Z and N alone and no register; the flags are those of the unsigned
comparison and of the difference. -/
def Obligations.compares_write_c_z_n_alone : Prop :=
  ∀ (i : Instr) (s : State) (r : Byte), (i.mnemonic, r) ∈ [(Mnemonic.cmp, s.a), (.cpx, s.x), (.cpy, s.y)] →
    WellFormed s.cfg.model i = true → s.allReadable (s.dataReads i.operand) →
    let m := s.operandValue i.operand
    ∃ p : Byte, exec i s = .next
        { s.past i (s.dataReads i.operand) { cross := s.operandCross i.operand } with p := p } ∧
      flag p .c = decide (m.toNat ≤ r.toNat) ∧ flag p .z = decide (r = m) ∧ flag p .n = (r - m).msb ∧
      ∀ f ∈ [Flag.v, .d, .i, .b, .u], flag p f = flag s.p f

/-- R226, R227: INC and DEC of memory: one load and one store of the same address, N and Z. -/
def Obligations.inc_dec_memory_result : Prop :=
  ∀ (i : Instr) (s : State) (m : MemMode) (r : Byte) (ph : Phys),
    (i.mnemonic, r) ∈ [(Mnemonic.inc, s.peek (s.ea m).addr + 1), (.dec, s.peek (s.ea m).addr - 1)] →
    i.operand = .mem m → WellFormed s.cfg.model i = true → s.allReadable (s.modeReads m) →
    s.storesTo (s.ea m).addr ph →
    let t := s.past i (s.modeReads m ++ [(s.ea m).addr]) { cross := (s.ea m).cross }
    exec i s = .next
      { t with mem := s.mem.write ph r, counts := t.counts.write ph (t.counts.read ph + 1), p := setNZ s.p r }

/-- R226 to R231: the increments and decrements of registers; those of A exist on `CMOS65C02`. C and V are not written. -/
def Obligations.inc_dec_registers_result : Prop :=
  ∀ s : State,
    (s.cfg.model = .cmos65c02 →
      exec .incAcc s = .next { s.past .incAcc [] {} with a := s.a + 1, p := setNZ s.p (s.a + 1) } ∧
      exec .decAcc s = .next { s.past .decAcc [] {} with a := s.a - 1, p := setNZ s.p (s.a - 1) }) ∧
    exec .inx s = .next { s.past .inx [] {} with x := s.x + 1, p := setNZ s.p (s.x + 1) } ∧
    exec .iny s = .next { s.past .iny [] {} with y := s.y + 1, p := setNZ s.p (s.y + 1) } ∧
    exec .dex s = .next { s.past .dex [] {} with x := s.x - 1, p := setNZ s.p (s.x - 1) } ∧
    exec .dey s = .next { s.past .dey [] {} with y := s.y - 1, p := setNZ s.p (s.y - 1) }

/-- R189, R190: what the binary ALU functions compute: the sum modulo 256 with its carry and, for the subtraction, the
difference modulo 256 with C telling that there was no borrow; V tells that the signed result does not fit 8 bits. -/
def Obligations.binary_alu_sum_carry_overflow : Prop :=
  (∀ (a m : Byte) (c : Bool),
    let k := if c then 1 else 0
    (addBin a m c).1.toNat = (a.toNat + m.toNat + k) % 256 ∧
    (addBin a m c).2.1 = decide (256 ≤ a.toNat + m.toNat + k) ∧
    (addBin a m c).2.2 = ((a ^^^ (addBin a m c).1) &&& (m ^^^ (addBin a m c).1) &&& 0x80 != 0) ∧
    (addBin a m c).2.2 = decide (a.toInt + m.toInt + k < -128 ∨ 127 < a.toInt + m.toInt + k) ∧
    subBin a m c = addBin a (0xFF ^^^ m) c ∧
    (subBin a m c).1.toNat = (a.toNat + 256 - m.toNat - (1 - k)) % 256 ∧
    (subBin a m c).2.1 = decide (m.toNat + (1 - k) ≤ a.toNat)) ∧
  addBin 208 144 false = (96, true, true) ∧ subBin 0 1 true = (0xFF, false, false)

/-- R191 to R193: the decimal ALU functions refuse exactly the operands with a nibble above 9, and otherwise give the BCD byte
of the sum or difference modulo 100 with its carry or no-borrow. -/
def Obligations.decimal_alu_sum_difference_carry : Prop :=
  ∀ (a m : Byte) (c : Bool),
    let k := if c then 1 else 0
    let bcd := fun v : Byte => v.toNat / 16 ≤ 9 ∧ v.toNat % 16 ≤ 9
    let dec := fun v : Byte => 10 * (v.toNat / 16) + v.toNat % 16
    (addBcd a m c = none ↔ ¬(bcd a ∧ bcd m)) ∧ (subBcd a m c = none ↔ ¬(bcd a ∧ bcd m)) ∧
    (∀ (r : Byte) (co : Bool), addBcd a m c = some (r, co) →
      bcd r ∧ dec r = (dec a + dec m + k) % 100 ∧ co = decide (100 ≤ dec a + dec m + k)) ∧
    (∀ (r : Byte) (co : Bool), subBcd a m c = some (r, co) →
      bcd r ∧ dec r = (dec a + 100 - dec m - (1 - k)) % 100 ∧ co = decide (dec m + (1 - k) ≤ dec a))

/-! ## Logic, shifts, bits (43_logic_shift_bit.md) -/

/-- R241 to R243: AND, ORA and EOR in every mode. -/
def Obligations.logic_result_and_nz : Prop :=
  ∀ (i : Instr) (s : State) (r : Byte),
    (i.mnemonic, r) ∈ [(Mnemonic.and, s.a &&& s.operandValue i.operand), (.ora, s.a ||| s.operandValue i.operand),
      (.eor, s.a ^^^ s.operandValue i.operand)] →
    WellFormed s.cfg.model i = true → s.allReadable (s.dataReads i.operand) →
    exec i s = .next
      { s.past i (s.dataReads i.operand) { cross := s.operandCross i.operand } with a := r, p := setNZ s.p r }

/-- R244: BIT with a memory operand writes Z from A AND M, N and V from M itself; BIT #imm writes Z alone. -/
def Obligations.bit_tests_operand_against_a : Prop :=
  ∀ (i : Instr) (s : State), i.mnemonic = .bit → WellFormed s.cfg.model i = true →
    s.allReadable (s.dataReads i.operand) →
    let m := s.operandValue i.operand
    ∃ p : Byte, exec i s = .next
        { s.past i (s.dataReads i.operand) { cross := s.operandCross i.operand } with p := p } ∧
      flag p .z = decide (s.a &&& m = 0) ∧
      (∀ f ∈ [Flag.c, .d, .i, .b, .u], flag p f = flag s.p f) ∧
      (i.opcode ≠ 0x89 → flag p .n = m.getLsbD 7 ∧ flag p .v = m.getLsbD 6) ∧
      (i.opcode = 0x89 → flag p .n = flag s.p .n ∧ flag p .v = flag s.p .v)

/-- R245 to R248 on memory: C is the bit shifted out, the rotates bring the old C in; one load and one store. -/
def Obligations.shifts_memory_result_and_carry : Prop :=
  ∀ (i : Instr) (s : State) (m : MemMode) (r : Byte) (c : Bool) (ph : Phys),
    let v := s.peek (s.ea m).addr
    let old := if flag s.p .c then 1 else 0
    (i.mnemonic, r, c) ∈
      [(Mnemonic.asl, BitVec.ofNat 8 (v.toNat * 2), v.getLsbD 7), (.lsr, BitVec.ofNat 8 (v.toNat / 2), v.getLsbD 0),
        (.rol, BitVec.ofNat 8 (v.toNat * 2 + old), v.getLsbD 7),
        (.ror, BitVec.ofNat 8 (v.toNat / 2 + 128 * old), v.getLsbD 0)] →
    i.operand = .mem m → s.allReadable (s.modeReads m) → s.storesTo (s.ea m).addr ph →
    let t := s.past i (s.modeReads m ++ [(s.ea m).addr]) { cross := (s.ea m).cross }
    exec i s = .next
      { t with
        mem := s.mem.write ph r
        counts := t.counts.write ph (t.counts.read ph + 1)
        p := setNZ (setFlag s.p .c c) r }

/-- R245 to R248 on the accumulator: the same results in A, with no data access. -/
def Obligations.shifts_accumulator_result_and_carry : Prop :=
  ∀ (i : Instr) (s : State) (r : Byte) (c : Bool),
    let old := if flag s.p .c then 1 else 0
    (i, r, c) ∈
      [(Instr.aslAcc, BitVec.ofNat 8 (s.a.toNat * 2), s.a.getLsbD 7),
        (.lsrAcc, BitVec.ofNat 8 (s.a.toNat / 2), s.a.getLsbD 0),
        (.rolAcc, BitVec.ofNat 8 (s.a.toNat * 2 + old), s.a.getLsbD 7),
        (.rorAcc, BitVec.ofNat 8 (s.a.toNat / 2 + 128 * old), s.a.getLsbD 0)] →
    exec i s = .next { s.past i [] {} with a := r, p := setNZ (setFlag s.p .c c) r }

/-- R249 to R252: TRB and TSB write Z from the value before the store; RMBb and SMBb write no flag. -/
def Obligations.trb_tsb_rmb_smb_result : Prop :=
  ∀ (i : Instr) (s : State) (m : MemMode) (ph : Phys), i.operand = .mem m → WellFormed s.cfg.model i = true →
    s.allReadable (s.modeReads m) → s.storesTo (s.ea m).addr ph →
    let v := s.peek (s.ea m).addr
    let t := s.past i (s.modeReads m ++ [(s.ea m).addr]) { cross := (s.ea m).cross }
    let stored := fun r : Byte =>
      { t with mem := s.mem.write ph r, counts := t.counts.write ph (t.counts.read ph + 1) }
    (i.mnemonic = .trb →
      exec i s = .next { stored (v &&& (0xFF ^^^ s.a)) with p := setFlag s.p .z (decide (s.a &&& v = 0)) }) ∧
    (i.mnemonic = .tsb → exec i s = .next { stored (v ||| s.a) with p := setFlag s.p .z (decide (s.a &&& v = 0)) }) ∧
    (∀ b : Fin 8, i.mnemonic = .rmb b → exec i s = .next (stored (v &&& (0xFF ^^^ BitVec.ofNat 8 (2 ^ b.val))))) ∧
    (∀ b : Fin 8, i.mnemonic = .smb b → exec i s = .next (stored (v ||| BitVec.ofNat 8 (2 ^ b.val))))

/-! ## Control (44_control.md) -/

/-- R260 to R268, R177: a branch whose condition fails passes its offset byte with no transaction. -/
def Obligations.branch_not_taken_passes_its_offset : Prop :=
  ∀ (i : Instr) (s : State),
    (i.mnemonic, false) ∈ [(Mnemonic.bpl, !flag s.p .n), (.bmi, flag s.p .n), (.bvc, !flag s.p .v),
      (.bvs, flag s.p .v), (.bcc, !flag s.p .c), (.bcs, flag s.p .c), (.bne, !flag s.p .z), (.beq, flag s.p .z)] →
    exec i s = .next (s.past i [] {})

/-- R260 to R269, R177: a taken branch fetches its offset and goes to the address after it plus the signed offset, modulo
2^16; its cost sees whether that changed the page. No register but PC and no flag changes. -/
def Obligations.branch_taken_goes_to_its_target : Prop :=
  ∀ (i : Instr) (s : State) (r : Byte),
    (i.mnemonic, true) ∈ [(Mnemonic.bpl, !flag s.p .n), (.bmi, flag s.p .n), (.bvc, !flag s.p .v),
      (.bvs, flag s.p .v), (.bcc, !flag s.p .c), (.bcs, flag s.p .c), (.bne, !flag s.p .z), (.beq, flag s.p .z),
      (.bra, true)] →
    i.operand = .rel r → WellFormed s.cfg.model i = true → s.readable s.pc = true →
    let target := BitVec.ofInt 16 ((s.nextPc i).toNat + (if r.toNat < 0x80 then (r.toNat : Int) else r.toNat - 256))
    exec i s = .next
      { s.past i [s.pc] { taken := true, cross := hi8 (s.nextPc i) != hi8 target } with pc := target }

/-- R270, R271, R178: BBRb and BBSb read the zero-page byte, then branch or pass their offset byte without reading it. -/
def Obligations.bit_branches_test_one_bit : Prop :=
  ∀ (i : Instr) (s : State) (b : Fin 8) (z r : Byte), i.operand = .zprel z r → WellFormed s.cfg.model i = true →
    s.allReadable [s.pc, w16 0 z] →
    let bit := (s.peek (w16 0 z)).getLsbD b.val
    let target := BitVec.ofInt 16 ((s.nextPc i).toNat + (if r.toNat < 0x80 then (r.toNat : Int) else r.toNat - 256))
    (i.mnemonic = .bbr b ∧ bit = true ∨ i.mnemonic = .bbs b ∧ bit = false →
      exec i s = .next (s.past i [s.pc, w16 0 z] {})) ∧
    (i.mnemonic = .bbr b ∧ bit = false ∨ i.mnemonic = .bbs b ∧ bit = true → s.readable (s.pc + 1) = true →
      exec i s = .next
        { s.past i [s.pc, w16 0 z, s.pc + 1] { taken := true, cross := hi8 (s.nextPc i) != hi8 target } with
          pc := target })

/-- R272, R174, R175, R176: the three jumps. The indirect jump's high pointer byte is read in the same page on `NMOS6502`
and at the next address on `CMOS65C02`. -/
def Obligations.jumps_go_to_their_target : Prop :=
  ∀ (a : Addr) (s : State), s.allReadable [s.pc, s.pc + 1] →
    exec (.jmpAbs a) s = .next { s.past (.jmpAbs a) [s.pc, s.pc + 1] {} with pc := a } ∧
    (∀ h : Addr, (s.cfg.model, h) ∈ [(CpuModel.nmos6502, w16 (hi8 a) (lo8 a + 1)), (.cmos65c02, a + 1)] →
      s.allReadable [a, h] →
      exec (.jmpInd a) s =
        .next { s.past (.jmpInd a) [s.pc, s.pc + 1, a, h] {} with pc := w16 (s.peek h) (s.peek a) }) ∧
    (s.cfg.model = .cmos65c02 → s.allReadable [a + w16 0 s.x, a + w16 0 s.x + 1] →
      exec (.jmpAix a) s = .next
        { s.past (.jmpAix a) [s.pc, s.pc + 1, a + w16 0 s.x, a + w16 0 s.x + 1] {} with
          pc := w16 (s.peek (a + w16 0 s.x + 1)) (s.peek (a + w16 0 s.x)) })

/-- R273, R182: JSR pushes the high then the low byte of the address of its own last byte and jumps. -/
def Obligations.jsr_pushes_return_address_and_jumps : Prop :=
  ∀ (a : Addr) (s : State) (ph ph' : Phys), s.allReadable [s.pc, s.pc + 1] →
    s.storesTo (w16 0x01 s.sp) ph → s.storesTo (w16 0x01 (s.sp - 1)) ph' →
    let t := s.past (.jsr a) [s.pc, s.pc + 1] {}
    let ret := s.pc + 1
    let counted := t.counts.write ph (t.counts.read ph + 1)
    exec (.jsr a) s = .next
      { t with
        mem := (s.mem.write ph (hi8 ret)).write ph' (lo8 ret)
        counts := counted.write ph' (counted.read ph' + 1)
        sp := s.sp - 2
        pc := a }

/-- R274, R275, R183: RTS pulls the low then the high byte of an address and goes one past it; RTI pulls all eight bits of P
first and goes to the address itself. -/
def Obligations.returns_pull_their_address : Prop :=
  ∀ s : State,
    (s.allReadable [w16 0x01 (s.sp + 1), w16 0x01 (s.sp + 2)] →
      exec .rts s = .next
        { s.past .rts [w16 0x01 (s.sp + 1), w16 0x01 (s.sp + 2)] {} with
          sp := s.sp + 2
          pc := w16 (s.peek (w16 0x01 (s.sp + 2))) (s.peek (w16 0x01 (s.sp + 1))) + 1 }) ∧
    (s.allReadable [w16 0x01 (s.sp + 1), w16 0x01 (s.sp + 2), w16 0x01 (s.sp + 3)] →
      exec .rti s = .next
        { s.past .rti [w16 0x01 (s.sp + 1), w16 0x01 (s.sp + 2), w16 0x01 (s.sp + 3)] {} with
          sp := s.sp + 3
          p := s.peek (w16 0x01 (s.sp + 1))
          pc := w16 (s.peek (w16 0x01 (s.sp + 3))) (s.peek (w16 0x01 (s.sp + 2))) })

/-- R276, R195, R160, R277: BRK halts the run, its result `Ok` going to the host, with no push, no vector and no register
but PC changed; NOP only advances. -/
def Obligations.brk_halts_and_nop_advances : Prop :=
  ∀ s : State,
    exec .brk s = .next { s.past .brk [] {} with status := .halted, replies := s.replies ++ [.ok] } ∧
    exec .nop s = .next (s.past .nop [] {})

/-! ## Stack and flags (45_stack_flags.md) -/

/-- R291, R292, R295, R296, R182: the pushes; PHP pushes P with the bits of `PHP_OR_MASK` set and leaves P. -/
def Obligations.pushes_store_and_lower_sp : Prop :=
  ∀ (i : Instr) (s : State) (v : Byte) (ph : Phys),
    (i, v) ∈ [(Instr.pha, s.a), (.php, s.p ||| s.cfg.phpOrMask), (.phx, s.x), (.phy, s.y)] →
    WellFormed s.cfg.model i = true → s.storesTo (w16 0x01 s.sp) ph →
    let t := s.past i [] {}
    exec i s = .next
      { t with mem := s.mem.write ph v, counts := t.counts.write ph (t.counts.read ph + 1), sp := s.sp - 1 }

/-- R293, R294, R297, R298, R183: the pulls; PLP writes all eight bits of P. -/
def Obligations.pulls_load_and_raise_sp : Prop :=
  ∀ s : State, s.readable (w16 0x01 (s.sp + 1)) = true →
    let v := s.peek (w16 0x01 (s.sp + 1))
    let past := fun i : Instr => { s.past i [w16 0x01 (s.sp + 1)] {} with sp := s.sp + 1 }
    exec .pla s = .next { past .pla with a := v, p := setNZ s.p v } ∧
    exec .plp s = .next { past .plp with p := v } ∧
    (s.cfg.model = .cmos65c02 →
      exec .plx s = .next { past .plx with x := v, p := setNZ s.p v } ∧
      exec .ply s = .next { past .ply with y := v, p := setNZ s.p v })

/-- R299 to R305: the flag instructions write their one flag. -/
def Obligations.flag_instructions_write_one_flag : Prop :=
  ∀ (i : Instr) (s : State) (f : Flag) (v : Bool),
    (i, f, v) ∈ [(Instr.clc, Flag.c, false), (.cld, .d, false), (.cli, .i, false), (.clv, .v, false), (.sec, .c, true),
      (.sed, .d, true), (.sei, .i, true)] →
    ∃ p : Byte, exec i s = .next { s.past i [] {} with p := p } ∧ flag p f = v ∧
      ∀ g : Flag, g ≠ f → flag p g = flag s.p g

/-! ## Pieces of an instruction (40_dispatch.md, 10_state.md) -/

/-- R35, R15, R184, R36: the flags are the bits of P at the masks of R35; writing one flag writes that bit alone; SetNZ writes
N and Z and no other bit. -/
def Obligations.flag_writes_touch_one_bit : Prop :=
  ∀ p v : Byte,
    flag p .n = p.getLsbD 7 ∧ flag p .v = p.getLsbD 6 ∧ flag p .u = p.getLsbD 5 ∧ flag p .b = p.getLsbD 4 ∧
    flag p .d = p.getLsbD 3 ∧ flag p .i = p.getLsbD 2 ∧ flag p .z = p.getLsbD 1 ∧ flag p .c = p.getLsbD 0 ∧
    (∀ (f g : Flag) (w : Bool), flag (setFlag p f w) g = if g = f then w else flag p g) ∧
    flag (setNZ p v) .z = decide (v = 0) ∧ flag (setNZ p v) .n = v.getLsbD 7 ∧
    ∀ f ∈ [Flag.c, .v, .i, .d, .b, .u], flag (setNZ p v) f = flag p f

/-- R167 to R173 as numbers: the effective address of each mode and its page-cross bit. -/
def Obligations.effective_addresses_wrap_and_cross : Prop :=
  ∀ (s : State) (z : Byte) (a : Addr),
    let byte := fun n : Nat => (s.peek (BitVec.ofNat 16 (n % 256))).toNat
    let pointer := fun n : Nat => 256 * byte (n + 1) + byte n
    let indexedBy := fun (base index : Nat) (e : Ea) =>
      e.addr.toNat = (base + index) % 65536 ∧ (e.cross = true ↔ base / 256 ≠ (base + index) % 65536 / 256)
    (s.ea (.zp z)).addr.toNat = z.toNat ∧ (s.ea (.zp z)).cross = false ∧
    (s.ea (.zpx z)).addr.toNat = (z.toNat + s.x.toNat) % 256 ∧ (s.ea (.zpx z)).cross = false ∧
    (s.ea (.zpy z)).addr.toNat = (z.toNat + s.y.toNat) % 256 ∧ (s.ea (.zpy z)).cross = false ∧
    (s.ea (.abs a)).addr = a ∧ (s.ea (.abs a)).cross = false ∧
    indexedBy a.toNat s.x.toNat (s.ea (.absx a)) ∧ indexedBy a.toNat s.y.toNat (s.ea (.absy a)) ∧
    (s.ea (.indx z)).addr.toNat = pointer (z.toNat + s.x.toNat) ∧ (s.ea (.indx z)).cross = false ∧
    indexedBy (pointer z.toNat) s.y.toNat (s.ea (.indy z)) ∧
    (s.ea (.zpi z)).addr.toNat = pointer z.toNat ∧ (s.ea (.zpi z)).cross = false

/-- R182, R183, R181: Push stores at 0x0100 + SP and then decrements SP modulo 256; Pop increments it and then loads from
0x0100 + SP. A store or load that raises a fault ends either there. -/
def Obligations.push_stores_then_pop_increments_then_loads : Prop :=
  ∀ (s : State) (v : Byte),
    let top := BitVec.ofNat 16 (0x0100 + s.sp.toNat)
    let next := BitVec.ofNat 16 (0x0100 + (s.sp.toNat + 1) % 256)
    let up := { s with sp := BitVec.ofNat 8 (s.sp.toNat + 1) }
    (∀ t : State, memWrite top v s = .ok () t → push v s = .ok () { t with sp := BitVec.ofNat 8 (t.sp.toNat + 255) }) ∧
    (∀ (f : FaultRecord) (t : State), memWrite top v s = .error f t → push v s = .error f t) ∧
    (∀ (b : Byte) (t : State), memRead next up = .ok b t → pop s = .ok b t) ∧
    (∀ (f : FaultRecord) (t : State), memRead next up = .error f t → pop s = .error f t)

/-- R382, R383, R185, R186, R188 with the default `CYCLE_TABLE`: the cost of every instruction of each model is its cell of the
timing table with the penalty of the cell's class and the decimal extra cycle. R187, R380, R384: the costs the source fixes and
the worked cases, as numbers. -/
def Obligations.cycle_costs_of_the_default_table : Prop :=
  ∀ cfg : Config, cfg.cycleTable = [] →
    (∀ (i : Instr) (t : Timing) (nmos cmos : Nat) (penalty : PenaltyClass), WellFormed cfg.model i = true →
      timingCell i.mnemonic i.operand = (nmos, cmos, penalty) →
      instrCost cfg i.opcode t =
        (if cfg.model = .nmos6502 then nmos else cmos) +
        (if t.cross = true ∧ (penalty = .page ∨ penalty = .c02page ∧ cfg.model = .cmos65c02) then 1 else 0) +
        (if t.taken = true ∧ (penalty = .branch ∨ penalty = .bitbranch) then (if t.cross = true then 2 else 1) else 0) +
        (if t.decimal = true ∧ cfg.model = .cmos65c02 ∧ cfg.c02DecimalExtraCycle = true then 1 else 0)) ∧
    instrCost cfg 0xA9 {} = 2 ∧ instrCost cfg 0x00 {} = 7 ∧
    (∀ op ∈ [(0x10 : Byte), 0x30, 0x50, 0x70, 0x90, 0xB0, 0xD0, 0xF0],
      instrCost cfg op {} = 2 ∧ instrCost cfg op { taken := true } = 3 ∧
      instrCost cfg op { taken := true, cross := true } = 4) ∧
    (∀ op ∈ [(0xBD : Byte), 0xB9, 0xB1, 0xBE, 0xBC, 0x7D, 0x79, 0x71, 0xFD, 0xF9, 0xF1, 0xDD, 0xD9, 0xD1, 0x3D, 0x39,
      0x31, 0x1D, 0x19, 0x11, 0x5D, 0x59, 0x51],
      instrCost cfg op { cross := true } = instrCost cfg op {} + 1) ∧
    instrCost cfg 0xBD { cross := true } = 5 ∧ instrCost cfg 0xBD {} = 4 ∧ instrCost cfg 0x9D { cross := true } = 5 ∧
    instrCost cfg 0x1E { cross := true } = 7 ∧ instrCost cfg 0x1E {} = (if cfg.model = .nmos6502 then 7 else 6) ∧
    instrCost cfg 0x6C {} = (if cfg.model = .nmos6502 then 5 else 6) ∧
    instrCost cfg 0x69 { decimal := true } =
      (if cfg.model = .cmos65c02 ∧ cfg.c02DecimalExtraCycle = true then 3 else 2)

/-! ## Memory (20_memory.md) -/

/-- R65, R66, R67: a load answers the byte at the resolved physical byte and changes its counter alone; a store changes that
byte and its counter, and the new bytes govern every later resolution; an access that does not resolve is a fault and changes
nothing. -/
def Obligations.load_and_store_touch_one_physical_byte : Prop :=
  ∀ (s : State) (a : Addr) (v : Byte),
    (∀ ph : Phys, s.resolve a = some ph →
      memRead a s = .ok (s.mem.read ph) { s with counts := s.counts.write ph (s.counts.read ph + 1) } ∧
      ∃ t : State, backendStore a v s = .ok () t ∧
        t = { s with counts := s.counts.write ph (s.counts.read ph + 1), mem := s.mem.write ph v } ∧
        ∀ b : Addr, t.resolve b = Machine.resolve s.cfg.backend (s.mem.write ph v) b) ∧
    (s.resolve a = none →
      memRead a s = .error (.outOfRange a .load) s ∧ backendStore a v s = .error (.outOfRange a .store) s)

/-- R63: a load or store that reaches the backend raises the counter of the one physical byte it resolves to by exactly 1,
modulo 2^64, and no other counter; one that faults raises none. -/
def Obligations.access_raises_one_counter_by_one : Prop :=
  ∀ (s t : State) (a : Addr) (v : Byte),
    (∀ ph : Phys, s.resolve a = some ph →
      (∃ b : Byte, memRead a s = .ok b t) ∨ (s.sinkAt a = none ∧ memWrite a v s = .ok () t) →
      (t.counts.read ph).toNat = ((s.counts.read ph).toNat + 1) % 2 ^ 64 ∧
      ∀ ph' : Phys, ph' ≠ ph → t.counts.read ph' = s.counts.read ph') ∧
    (∀ f : FaultRecord, memRead a s = .error f t ∨ (s.sinkAt a = none ∧ memWrite a v s = .error f t) →
      t.counts = s.counts)

/-- R68: on every backend, a store to an address that resolves and has no sink, followed at once by a load of it, returns the
byte stored, ROM windows and control bytes included; a store to an address with a sink is the sink's. -/
def Obligations.store_then_load_returns_the_byte : Prop :=
  ∀ (s : State) (a : Addr) (v : Byte),
    (s.sinkAt a = none → s.readable a = true →
      ∃ t u : State, memWrite a v s = .ok () t ∧ memRead a t = .ok v u ∧ u.mem = t.mem) ∧
    (∀ sink : Nat, s.sinkAt a = some sink → memWrite a v s = sinkWrite sink a v s)

/-- R71, R73 to R77: the linear and the bank-switched resolver. -/
def Obligations.linear_and_banked_resolution : Prop :=
  ∀ (m : Memory) (a : Addr) (size ram rom : Nat),
    let b := (m.read ⟨.low, 0⟩).toNat
    let r := (m.read ⟨.low, 1⟩).toNat % 32
    resolve (.linear size) m a = (if a.toNat < min size 65536 then some ⟨.lin, a.toNat⟩ else none) ∧
    (a.toNat < 0xA000 → resolve (.bankSwitched ram rom) m a = some ⟨.low, a.toNat⟩) ∧
    (0xA000 ≤ a.toNat → a.toNat ≤ 0xBFFF →
      resolve (.bankSwitched ram rom) m a =
        if b < ram then some ⟨.ramb, b * 0x2000 + (a.toNat - 0xA000)⟩ else none) ∧
    (0xC000 ≤ a.toNat →
      resolve (.bankSwitched ram rom) m a =
        if r < rom then some ⟨.romb, r * 0x4000 + (a.toNat - 0xC000)⟩ else none)

/-- R80, R82, R83: the track/sector resolver, its index as a number; no access is out of range. -/
def Obligations.track_sector_resolution : Prop :=
  ∀ (m : Memory) (a track sector : Addr) (bits : Int) (page : Byte),
    let sb := if 1 ≤ bits ∧ bits ≤ 8 then bits.toNat else 8
    let t := (m.read ⟨.base, track.toNat⟩).toNat % 64
    let s := (m.read ⟨.base, sector.toNat⟩).toNat % 2 ^ sb
    let offset := a.toNat % 256
    let index := (t * 2 ^ sb + s) * 256 + offset
    (a.toNat / 256 = page.toNat →
      resolve (.trackSector bits track sector page) m a = some ⟨.ind, index⟩ ∧ index < 64 * 2 ^ sb * 256) ∧
    (a.toNat / 256 ≠ page.toNat → resolve (.trackSector bits track sector page) m a = some ⟨.base, a.toNat⟩)

/-- R86 to R91 with the fields of R53, R54: the MMU resolver, each line under the failure of the lines before it. -/
def Obligations.mmu_resolution : Prop :=
  ∀ (m : Memory) (a : Addr) (pages : Nat),
    let ctrl := (m.read ⟨.ctrl, 0⟩).toNat
    let io := (m.read ⟨.ctrl, 1⟩).toNat
    let p := (m.read ⟨.lut, ctrl % 4 * 8 + a.toNat / 0x2000⟩).toNat
    let edit := 0x0008 ≤ a.toNat ∧ a.toNat ≤ 0x000F ∧ 128 ≤ ctrl
    let window := 0xC000 ≤ a.toNat ∧ a.toNat ≤ 0xDFFF ∧ io / 4 % 2 = 0
    (a.toNat = 0 → resolve (.mmu pages) m a = some ⟨.ctrl, 0⟩) ∧
    (a.toNat = 1 → resolve (.mmu pages) m a = some ⟨.ctrl, 1⟩) ∧
    (edit → resolve (.mmu pages) m a = some ⟨.lut, ctrl / 16 % 4 * 8 + (a.toNat - 0x0008)⟩) ∧
    (window → resolve (.mmu pages) m a = some ⟨.io, io % 4 * 0x2000 + (a.toNat - 0xC000)⟩) ∧
    (1 < a.toNat → ¬edit → ¬window →
      resolve (.mmu pages) m a = if p < pages then some ⟨.sys, p * 0x2000 + a.toNat % 0x2000⟩ else none)

/-! ## Host commands (20_memory.md, 60_exceptions.md, 70_reset_and_hazards.md) -/

/-- R110 to R113: a snapshot, any later state of the same block that still holds it, and a restore: every storage and control
byte is as it was, and no counter and no register is touched by either command; with no snapshot the restore is an error. -/
def Obligations.restore_brings_back_every_byte : Prop :=
  ∀ s u : State, s.status ∈ [Status.idle, .halted, .faulted] → u.status ∈ [Status.idle, .halted, .faulted] →
    hostCommand .takeSnapshot s = (some .ok, { s with snap := some s.mem }) ∧
    (u.snap = some s.mem → hostCommand .restoreSnapshot u = (some .ok, { u with mem := s.mem })) ∧
    (u.snap = none → hostCommand .restoreSnapshot u = (some (.error .noSnapshot), u))

/-- R115: a program of fewer than 3 bytes is refused and nothing is written; else its bytes stand at consecutive addresses
from the little-endian load address, modulo 2^16, every other byte is as it was, and the load address and length are the
result. (Linear backend, no sinks, every target in range, at most 65536 bytes.) -/
def Obligations.load_program_places_the_payload : Prop :=
  ∀ (s : State) (lo hi : Byte) (bytes : List Byte) (size : Nat), s.status ∈ [Status.idle, .halted, .faulted] →
    (∀ short : List Byte, short.length < 3 →
      hostCommand (.loadProgram short) s = (some (.error (.programTooShort short.length)), s)) ∧
    (s.cfg.backend = .linear size → s.cfg.sinks = [] → 1 ≤ bytes.length → bytes.length ≤ 65536 →
      (∀ k : Nat, k < bytes.length → s.readable (w16 hi lo + BitVec.ofNat 16 k) = true) →
      ∃ t : State, hostCommand (.loadProgram (lo :: hi :: bytes)) s = (some (.loaded (w16 hi lo) bytes.length), t) ∧
        (∀ k : Nat, k < bytes.length → some (t.peek (w16 hi lo + BitVec.ofNat 16 k)) = bytes[k]?) ∧
        (∀ a : Addr, (∀ k : Nat, k < bytes.length → a ≠ w16 hi lo + BitVec.ofNat 16 k) → t.peek a = s.peek a) ∧
        t.status = s.status ∧ t.sp = s.sp ∧ t.pc = s.pc)

/-- R116, R117, R118: the range check of the copies, and what each does on a range that passes it. `copyFromMem` returns the
bytes of the range in order, each load counted and no byte of memory changed; `copyToMem` stores its bytes in order, each in
the state the stores before it leave, sinks and control bytes included. The first transfer that raises a fault ends either
with the error of that cause, and the transfers before it stay (R316). The last clause says what the stores leave where they
reach no sink and no control byte: each byte where its address resolved, each store counted. -/
def Obligations.copies_check_their_range_and_read_in_order : Prop :=
  ∀ (s : State) (address : Addr) (length : Nat) (bytes : List Byte), s.status ≠ .closed →
    let places := fun n : Nat => (List.range n).map fun k => address + BitVec.ofNat 16 k
    let stores := fun n : Nat =>
      (List.range n).foldl (fun t k => (t.stored (address + BitVec.ofNat 16 k) (bytes.getD k 0)).2) s
    let fault := fun n : Nat => ((stores n).stored (address + BitVec.ofNat 16 n) (bytes.getD n 0)).1
    (length < 1 ∨ 0xFFFF < address.toNat + length - 1 →
      hostCommand (.copyFromMem address length) s = (some (.error (.badRange address length)), s)) ∧
    (bytes.length < 1 ∨ 0xFFFF < address.toNat + bytes.length - 1 →
      hostCommand (.copyToMem bytes address) s = (some (.error (.badRange address bytes.length)), s)) ∧
    (1 ≤ length → address.toNat + length - 1 ≤ 0xFFFF →
      s.allReadable (places length) →
      hostCommand (.copyFromMem address length) s = (some (.bytes ((places length).map s.peek)), s.counted (places length))) ∧
    (∀ k : Nat, k < length → address.toNat + length - 1 ≤ 0xFFFF → s.allReadable (places k) →
      s.readable (address + BitVec.ofNat 16 k) = false →
      hostCommand (.copyFromMem address length) s =
        (some (.error (.met (.outOfRange (address + BitVec.ofNat 16 k) .load))), s.counted (places k))) ∧
    (1 ≤ bytes.length → address.toNat + bytes.length - 1 ≤ 0xFFFF →
      ((∀ k : Nat, k < bytes.length → fault k = none) →
        hostCommand (.copyToMem bytes address) s = (some .ok, stores bytes.length)) ∧
      (∀ (k : Nat) (f : FaultRecord), k < bytes.length → (∀ j : Nat, j < k → fault j = none) → fault k = some f →
        hostCommand (.copyToMem bytes address) s = (some (.error (.met f)), stores (k + 1)))) ∧
    (∀ phs : List Phys, (places bytes.length).map s.resolve = phs.map some →
      (∀ a ∈ places bytes.length, s.sinkAt a = none) → (∀ ph ∈ phs, isControlByte s.cfg.backend ph = false) →
      (∀ k : Nat, k < bytes.length → fault k = none) ∧
      stores bytes.length =
        { s.counted (places bytes.length) with mem := (phs.zip bytes).foldl (fun m e => m.write e.1 e.2) s.mem })

/-- R42, R114, R316: during a run every command but the three of the sink callbacks is `Busy`; after `close` every command is
`Closed`; neither changes anything. R105: outside a run `close` calls `close` once on every sink of `SINKS`, moves the status to
`Closed` and changes nothing else; in which order it calls them is the model's choice (log entry 10), and the statement says
nothing of it. R317: the codes of results, 0 being success. -/
def Obligations.busy_during_run_and_closed_after_close : Prop :=
  ∀ (c : HostCommand) (s : State),
    (s.status = .running → (∀ bytes a, c ≠ .copyToMem bytes a) → (∀ a n, c ≠ .copyFromMem a n) →
      (∀ a, c ≠ .getStatistics a) → hostCommand c s = (some (.error .busy), s)) ∧
    (s.status = .closed → hostCommand c s = (some (.error .closed), s)) ∧
    (s.status ∈ [Status.idle, .halted, .faulted] → ∃ calls : List SinkCall,
      calls.Nodup ∧ (∀ call : SinkCall, call ∈ calls ↔ ∃ e ∈ s.cfg.sinks, call = .close e.2) ∧
      hostCommand .close s = (some .ok, { s with status := .closed, sinkCalls := s.sinkCalls ++ calls })) ∧
    (∀ (a : Addr) (v w : Byte) (kind : AccessKind) (n : Nat) (count : Count) (data : List Byte) (lines : List ReportLine)
      (param : ConfigParam) (arg : ParamName),
      (∀ r ∈ [HostReply.ok, .loaded a n, .cycles count, .bytes data, .statistics count, .cutoff count, .report lines none],
        r.code = 0) ∧
      (∀ e ∈ [(FaultRecord.illegalOpcode v a, 1), (.outOfRange a kind, 2), (.invalidBCD v w, 3), (.sinkFailure a v, 4)],
        (HostReply.failure e.1).code = e.2 ∧ (HostReply.error (.met e.1)).code = e.2) ∧
      (∀ e ∈ [(HostError.configError param, 16), (.programTooShort n, 17), (.badRange a n, 18), (.paramError arg, 19),
          (.noSnapshot, 20), (.busy, 21), (.closed, 22)],
        (HostReply.error e.1).code = e.2 ∧ (HostReply.report lines (some e.1)).code = e.2))

/-- R57, R363, R361: `run` writes PC, CYCLES, FAULT and the status and nothing else; `init` writes SP and nothing else. That a
step of an engine that is not running takes the next entry of the field `commands`, and that `run` gives no result before the run
ends, are the model's choice (log entry 9, DESIGN CHOICE). -/
def Obligations.run_and_init_write_only_their_registers : Prop :=
  ∀ (s : State) (start : Addr), s.status ∈ [Status.idle, .halted, .faulted] →
    hostCommand (.run start) s = (none, { s with pc := start, cycles := 0, fault := none, status := .running }) ∧
    hostCommand .init s = (some .ok, { s with sp := 0xFF }) ∧
    (∀ rest : List HostCommand, Backend.check s.cfg.backend = none → s.commands = .run start :: rest →
      step s = .next
        { s with pc := start, cycles := 0, fault := none, status := .running, commands := rest })

/-- R340 to R343: on a valid range and fraction both cutoffs answer the value at rank `Index` of the ascending list of the
counts of the range, every address's count for the median, each distinct count once for the absolute cutoff. `validFraction`
admits the binary64 value -0.0 as the number 0, which is the model's (log entry 13, DEDUCED). -/
def Obligations.cutoffs_pick_the_value_at_their_rank : Prop :=
  ∀ (s : State) (alg : CutoffAlgorithm) (first last : Addr) (p : Fraction),
    first.toNat ≤ last.toNat → validFraction p = true → s.allReadable (addrRange first last) →
    (∀ a : Addr, a ∈ addrRange first last ↔ first.toNat ≤ a.toNat ∧ a.toNat ≤ last.toNat) ∧
    ∃ (c : Count) (l : List Count), s.cutoff alg first last p = .ok c ∧
      (∀ n : Count, n ∈ l ↔ ∃ a ∈ addrRange first last, s.statistics a = some n) ∧
      (alg = .absolute → l.Nodup) ∧
      (alg = .median → l.map some = (addrRange first last).map s.statistics) ∧
      c ∈ l ∧ (l.filter fun n => decide (n.toNat < c.toNat)).length ≤ cutoffIndex l.length p ∧
      cutoffIndex l.length p < (l.filter fun n => decide (n.toNat ≤ c.toNat)).length

/-- R344: the index lies in the list, `p = 0` picks the largest value, `p = 1` the smallest, and binary64 rounding shows at
0.9 and 0.8 of 10. -/
def Obligations.cutoff_index_is_in_range : Prop :=
  (∀ (n : Nat) (p : Fraction), 1 ≤ n → cutoffIndex n p < n) ∧
  (∀ n : Nat, 1 ≤ n → n ≤ 65536 → cutoffIndex n 0 = n - 1 ∧ cutoffIndex n 0x3FF0000000000000 = 0) ∧
  cutoffIndex 10 0x3FECCCCCCCCCCCCD = 0 ∧ cutoffIndex 10 0x3FE999999999999A = 1

/-- R345, R346, R348: where every address of the walk resolves, the report makes one counted load of each address and changes no
byte; it emits the labels of the address and then an entry with the byte there, the counter after that load less 1, floored
at 0, which is hot exactly when that is at least the cutoff. (No address twice.) R119, R341, R348, as commands:
`getStatistics` answers the counter and changes nothing; the cutoff commands answer the cutoff, or the error of their
arguments or of an address out of range, and change nothing; the report command counts each address of its range once and
changes nothing else. Which argument a `ParamError` names, which of several addresses out of range an `OutOfRange` of a cutoff or
report names, and the kind of one met without an access are the model's choice (log entries 21, 24 and 12), and the statement
says nothing of them. -/
def Obligations.report_counts_once_and_reports_before : Prop :=
  let lines := fun (c : Count) (labels : List (Addr × List String)) (addrs : List Addr) (s : State) =>
    addrs.flatMap fun a =>
      let raw := ((s.statistics a).getD 0).toNat
      let adjusted := if raw + 1 = 2 ^ 64 then 0 else raw
      ((labels.flatMap fun e => if e.1 = a then e.2 else []).map ReportLine.label) ++
        [ReportLine.entry (decide (c.toNat ≤ adjusted)) a (s.peek a) (BitVec.ofNat 64 adjusted)]
  (∀ (c : Count) (labels : List (Addr × List String)) (addrs : List Addr) (s : State), s.allReadable addrs →
    (addrs.map s.resolve).Nodup → reportWalk c labels addrs s = (lines c labels addrs s, none, s.counted addrs)) ∧
  (∀ (s : State) (a : Addr), s.status ≠ .closed →
    (∀ ph : Phys, s.resolve a = some ph →
      hostCommand (.getStatistics a) s = (some (.statistics (s.counts.read ph)), s)) ∧
    (s.resolve a = none → ∃ kind : AccessKind,
      hostCommand (.getStatistics a) s = (some (.error (.met (.outOfRange a kind))), s))) ∧
  (∀ (s : State) (first last : Addr) (p : Fraction) (alg : CutoffAlgorithm) (labels : List (Addr × List String)),
    s.status ∈ [Status.idle, .halted, .faulted] →
    let range := addrRange first last
    let command := if alg = .absolute then HostCommand.cutoffAbsolute first last p else .cutoffMedian first last p
    let report := HostCommand.report first last p alg labels
    (∀ c : Count, s.cutoff alg first last p = .ok c →
      hostCommand command s = (some (.cutoff c), s) ∧
      (∃ out : List ReportLine, hostCommand report s = (some (.report out none), s.counted range)) ∧
      ((range.map s.resolve).Nodup →
        hostCommand report s = (some (.report (lines c labels range s) none), s.counted range))) ∧
    (∀ e : HostError, s.cutoff alg first last p = .error e →
      hostCommand command s = (some (.error e), s) ∧ hostCommand report s = (some (.error e), s)) ∧
    (validFraction p = false ∨ last.toNat < first.toNat →
      ∃ arg : ParamName, s.cutoff alg first last p = .error (.paramError arg)) ∧
    (validFraction p = true → first.toNat ≤ last.toNat → ¬s.allReadable range →
      ∃ a ∈ range, ∃ kind : AccessKind, s.cutoff alg first last p = .error (.met (.outOfRange a kind))))

/-! ## Whole-machine rules -/

/-- R56, R361: the state after construction and `init`, for every configuration. The value of PC, which the spec leaves open,
is the model's choice (log entry 2) and not part of the statement. -/
def Obligations.state_after_construction_and_init : Prop :=
  ∀ (cfg : Config) (s : State), construct cfg = .ok s →
    Backend.check cfg.backend = none ∧ s.cfg = cfg ∧ s.sp = 0xFF ∧ s.a = cfg.initA ∧ s.x = cfg.initX ∧ s.y = cfg.initY ∧
    s.p = cfg.initP ∧ s.cycles = 0 ∧ s.status = .idle ∧ s.fault = none ∧ s.snap = none ∧
    (∀ ph : Phys, s.mem.read ph = cfg.initMem.read ph ∧ s.counts.read ph = 0)

/-- The invariant holds after construction, for every configuration whose `INIT_MEM` is canonical and inside the arrays of its
backend, the reset state of log entry 1 among them. -/
def Obligations.invariant_holds_after_construction : Prop :=
  (∀ cfg : Config, memorySound cfg.backend cfg.initMem → Inv (State.constructed cfg)) ∧ Inv State.reset

/-- Every step, of a run or of the host port, keeps the invariant: memory, counters and snapshot stay canonical and inside the
backend's arrays, and FAULT agrees with the status. -/
def Obligations.every_step_keeps_the_invariant : Prop := ∀ s t : State, Inv s → step s = .next t → Inv t

/-- R31 to R34, R37: an instruction that takes no fault changes A, X, Y, SP and each flag only where its mnemonic is among the
writers the rules list. -/
def Obligations.only_listed_mnemonics_write_registers_and_flags : Prop :=
  ∀ (i : Instr) (s t : State), exec i s = .next t → t.status ≠ .faulted →
    (t.a ≠ s.a → i.mnemonic ∈ [.lda, .pla, .txa, .tya, .adc, .sbc, .and, .ora, .eor] ∨
      (i.mnemonic ∈ [.asl, .lsr, .rol, .ror, .inc, .dec] ∧ i.operand = .acc)) ∧
    (t.x ≠ s.x → i.mnemonic ∈ [.ldx, .tax, .tsx, .inx, .dex, .plx]) ∧
    (t.y ≠ s.y → i.mnemonic ∈ [.ldy, .tay, .iny, .dey, .ply]) ∧
    (t.sp ≠ s.sp → i.mnemonic ∈ [.txs, .pha, .php, .phx, .phy, .pla, .plp, .plx, .ply, .jsr, .rts, .rti]) ∧
    (flag t.p .c ≠ flag s.p .c → i.mnemonic ∈
      [.adc, .sbc, .cmp, .cpx, .cpy, .asl, .lsr, .rol, .ror, .clc, .sec, .plp, .rti]) ∧
    (flag t.p .z ≠ flag s.p .z → i.mnemonic ∈
      [.lda, .ldx, .ldy, .tax, .tay, .txa, .tya, .tsx, .adc, .sbc, .and, .ora, .eor, .cmp, .cpx, .cpy, .bit, .inc,
        .dec, .inx, .iny, .dex, .dey, .asl, .lsr, .rol, .ror, .pla, .plx, .ply, .trb, .tsb, .plp, .rti]) ∧
    (flag t.p .n ≠ flag s.p .n → i.opcode ≠ 0x89 ∧ i.mnemonic ∈
      [.lda, .ldx, .ldy, .tax, .tay, .txa, .tya, .tsx, .adc, .sbc, .and, .ora, .eor, .cmp, .cpx, .cpy, .bit, .inc,
        .dec, .inx, .iny, .dex, .dey, .asl, .lsr, .rol, .ror, .pla, .plx, .ply, .plp, .rti]) ∧
    (flag t.p .v ≠ flag s.p .v → i.opcode ≠ 0x89 ∧ i.mnemonic ∈ [.adc, .sbc, .bit, .clv, .plp, .rti]) ∧
    (flag t.p .d ≠ flag s.p .d → i.mnemonic ∈ [.cld, .sed, .plp, .rti]) ∧
    (flag t.p .i ≠ flag s.p .i → i.mnemonic ∈ [.cli, .sei, .plp, .rti]) ∧
    (∀ f ∈ [Flag.b, .u], flag t.p f ≠ flag s.p f → i.mnemonic ∈ [.plp, .rti])

/-- R180, R102: an instruction changes no physical byte but those its own stores resolve to, and an instruction that stores
nothing changes no byte at all; where no control byte is stored to, every address outside the stored ones reads as before.
(No sink at an address it stores to.) -/
def Obligations.only_stored_addresses_change_memory : Prop :=
  ∀ (i : Instr) (s t : State), exec i s = .next t → (∀ a ∈ s.storeAddrs i, s.sinkAt a = none) →
    (s.storeAddrs i = [] → t.mem = s.mem) ∧
    (∀ ph : Phys, (∀ a ∈ s.storeAddrs i, s.resolve a ≠ some ph) → t.mem.read ph = s.mem.read ph) ∧
    ((∀ a ∈ s.storeAddrs i, ∀ ph : Phys, s.resolve a = some ph → isControlByte s.cfg.backend ph = false) →
      ∀ b : Addr, (∀ a ∈ s.storeAddrs i, s.resolve a ≠ s.resolve b) → t.peek b = s.peek b)

/-- R41, R47, R195, R310: no instruction changes the configuration, the snapshot or the host's commands; without a fault none
changes FAULT, and none but BRK the status or the host's results. -/
def Obligations.only_brk_ends_a_run_without_fault : Prop :=
  ∀ (i : Instr) (s t : State), exec i s = .next t →
    t.cfg = s.cfg ∧ t.snap = s.snap ∧ t.commands = s.commands ∧
    (t.status ≠ .faulted → t.fault = s.fault ∧ (i ≠ .brk → t.status = s.status ∧ t.replies = s.replies))
end

