-- ==== Sys2Proof/Laws/Bytes.lean ====
section
/-! SUPPORT. The bytes of a 16-bit value (00_scope.md R14) as numbers. -/

namespace Sys2Proof

@[simp] theorem w16_toNat (h l : Byte) : (w16 h l).toNat = h.toNat * 256 + l.toNat := by
  have e : (w16 h l).toNat = h.toNat <<< 8 ||| l.toNat := BitVec.toNat_append h l
  rw [e, ← Nat.shiftLeft_add_eq_or_of_lt l.isLt, Nat.shiftLeft_eq]

theorem hi8_toNat (a : Addr) : (hi8 a).toNat = a.toNat / 256 := by
  have := a.isLt
  simp [hi8, BitVec.extractLsb'_toNat, Nat.shiftRight_eq_div_pow]
  omega

theorem lo8_toNat (a : Addr) : (lo8 a).toNat = a.toNat % 256 := by
  simp [lo8, BitVec.extractLsb'_toNat]

/-- A 16-bit value is the word of its bytes. -/
@[simp] theorem w16_hi_lo (a : Addr) : w16 (hi8 a) (lo8 a) = a := by
  apply BitVec.eq_of_toNat_eq
  rw [w16_toNat, hi8_toNat, lo8_toNat]
  omega

@[simp] theorem hi8_w16 (h l : Byte) : hi8 (w16 h l) = h := by
  apply BitVec.eq_of_toNat_eq
  have := l.isLt
  rw [hi8_toNat, w16_toNat]
  omega

@[simp] theorem lo8_w16 (h l : Byte) : lo8 (w16 h l) = l := by
  apply BitVec.eq_of_toNat_eq
  have := l.isLt
  rw [lo8_toNat, w16_toNat]
  omega

end Sys2Proof
end

