-- ==== Sys2Proof/Laws/Memory.lean ====
section
/-! SUPPORT. Physical storage: a read after a write, the canonical form, and that resolution stays inside the arrays and
depends on the control bytes alone. -/

namespace Sys2Proof

/-! ## One array -/

theorem Cells.read_erase {w : Nat} (c : Cells w) (j k : Nat) :
    Cells.read (Cells.erase c j) k = if k = j then unlisted w else Cells.read c k := by
  induction c with
  | nil => simp [Cells.erase, Cells.read]
  | cons e rest ih =>
    obtain ⟨i, v⟩ := e
    simp only [Cells.erase, Cells.read]
    split <;> rename_i h
    · rw [ih]; split <;> rename_i h'
      · rfl
      · rw [if_neg]; omega
    · simp only [Cells.read, ih]
      by_cases h1 : i = k
      · subst h1; simp [h]
      · simp [h1]

theorem Cells.read_insert {w : Nat} (c : Cells w) (j k : Nat) (v : BitVec w) :
    Cells.read (Cells.insert c j v) k = if k = j then v else Cells.read c k := by
  induction c with
  | nil => by_cases h : k = j
           · subst h; simp [Cells.insert, Cells.read]
           · simp [Cells.insert, Cells.read, h, Ne.symm h]
  | cons e rest ih =>
    obtain ⟨i, u⟩ := e
    simp only [Cells.insert]
    by_cases hk : k = j
    · subst hk
      split
      · simp [Cells.read]
      · split
        · simp [Cells.read]
        · rename_i h1 h2; simp [Cells.read, ih, Ne.symm h2]
    · split
      · simp [Cells.read, Ne.symm hk]
      · split
        · rename_i h1 h2; subst h2; simp [Cells.read, Ne.symm hk]
        · simp [Cells.read, ih, hk]

/-- A read after a write. -/
theorem Cells.read_write {w : Nat} (c : Cells w) (j k : Nat) (v : BitVec w) :
    Cells.read (Cells.write c j v) k = if k = j then v else Cells.read c k := by
  unfold Cells.write
  split
  · rename_i h; rw [Cells.read_erase, h]
  · exact Cells.read_insert c j k v

theorem Cells.wfFrom_mono {w : Nat} {c : Cells w} {lo lo' : Nat} (h : Cells.wfFrom lo c = true) (hl : lo' ≤ lo) :
    Cells.wfFrom lo' c = true := by
  cases c with
  | nil => rfl
  | cons e rest =>
    simp only [Cells.wfFrom, Bool.and_eq_true, decide_eq_true_eq] at h ⊢
    exact ⟨⟨by omega, h.1.2⟩, h.2⟩

theorem Cells.wfFrom_erase {w : Nat} (c : Cells w) (lo j : Nat) (h : Cells.wfFrom lo c = true) :
    Cells.wfFrom lo (Cells.erase c j) = true := by
  induction c generalizing lo with
  | nil => rfl
  | cons e rest ih =>
    simp only [Cells.wfFrom, Bool.and_eq_true, decide_eq_true_eq] at h
    simp only [Cells.erase]
    split
    · exact Cells.wfFrom_mono (ih _ h.2) (by omega)
    · simp only [Cells.wfFrom, Bool.and_eq_true, decide_eq_true_eq]
      exact ⟨h.1, ih _ h.2⟩

theorem Cells.wfFrom_insert {w : Nat} (c : Cells w) (lo j : Nat) (v : BitVec w) (h : Cells.wfFrom lo c = true)
    (hj : lo ≤ j) (hv : v ≠ unlisted w) : Cells.wfFrom lo (Cells.insert c j v) = true := by
  induction c generalizing lo with
  | nil => simp [Cells.insert, Cells.wfFrom, hj, hv]
  | cons e rest ih =>
    obtain ⟨k, u⟩ := e
    simp only [Cells.wfFrom, Bool.and_eq_true, decide_eq_true_eq] at h
    simp only [Cells.insert]
    split
    · simp only [Cells.wfFrom, Bool.and_eq_true, decide_eq_true_eq]
      exact ⟨⟨hj, hv⟩, ⟨by omega, h.1.2⟩, h.2⟩
    · split
      · rename_i hk; subst hk
        simp only [Cells.wfFrom, Bool.and_eq_true, decide_eq_true_eq]
        exact ⟨⟨hj, hv⟩, h.2⟩
      · simp only [Cells.wfFrom, Bool.and_eq_true, decide_eq_true_eq]
        exact ⟨h.1, ih _ h.2 (by omega)⟩

/-- A write keeps the canonical form. -/
theorem Cells.wfFrom_write {w : Nat} (c : Cells w) (j : Nat) (v : BitVec w) (h : Cells.wfFrom 0 c = true) :
    Cells.wfFrom 0 (Cells.write c j v) = true := by
  unfold Cells.write
  split
  · exact Cells.wfFrom_erase c 0 j h
  · rename_i hv; exact Cells.wfFrom_insert c 0 j v h (Nat.zero_le _) hv

theorem Cells.below_write {w : Nat} (c : Cells w) (size j : Nat) (v : BitVec w) (h : Cells.below size c = true)
    (hj : j < size) : Cells.below size (Cells.write c j v) = true := by
  unfold Cells.write
  split
  · clear hj
    induction c with
    | nil => rfl
    | cons e rest ih =>
      simp only [Cells.below, List.all_cons, Bool.and_eq_true] at h
      simp only [Cells.erase]
      split
      · exact ih h.2
      · simp only [Cells.below, List.all_cons, Bool.and_eq_true]; exact ⟨h.1, ih h.2⟩
  · induction c with
    | nil => simp [Cells.insert, Cells.below, hj]
    | cons e rest ih =>
      obtain ⟨k, u⟩ := e
      have h0 := h
      simp only [Cells.below, List.all_cons, Bool.and_eq_true] at h
      simp only [Cells.insert]
      split
      · simp only [Cells.below, List.all_cons, Bool.and_eq_true, decide_eq_true_eq]
        exact ⟨hj, by simpa [Cells.below] using h⟩
      · split
        · simp only [Cells.below, List.all_cons, Bool.and_eq_true, decide_eq_true_eq]
          exact ⟨hj, h.2⟩
        · simp only [Cells.below, List.all_cons, Bool.and_eq_true]
          exact ⟨h.1, ih h.2⟩

/-! ## All the arrays of a backend -/

@[simp] theorem Arrays.get_set_same {w : Nat} (m : Arrays w) (arr : PhysArray) (c : Cells w) :
    (m.set arr c).get arr = c := by
  cases arr <;> rfl

theorem Arrays.get_set_other {w : Nat} (m : Arrays w) {arr arr' : PhysArray} (c : Cells w) (h : arr' ≠ arr) :
    (m.set arr c).get arr' = m.get arr' := by
  cases arr <;> cases arr' <;> first | rfl | exact absurd rfl h

/-- A read after a write: the byte written, and every other byte as before. -/
theorem Arrays.read_write {w : Nat} (m : Arrays w) (ph ph' : Phys) (v : BitVec w) :
    (m.write ph v).read ph' = if ph' = ph then v else m.read ph' := by
  obtain ⟨arr, j⟩ := ph
  obtain ⟨arr', k⟩ := ph'
  unfold Arrays.read Arrays.write
  by_cases h : arr' = arr
  · subst h
    simp only [Arrays.get_set_same, Cells.read_write, Phys.mk.injEq, true_and]
  · simp only [Arrays.get_set_other _ _ h, Phys.mk.injEq, h, false_and, if_false]

@[simp] theorem Arrays.read_write_same {w : Nat} (m : Arrays w) (ph : Phys) (v : BitVec w) :
    (m.write ph v).read ph = v := by
  rw [Arrays.read_write, if_pos rfl]

theorem Arrays.read_write_other {w : Nat} (m : Arrays w) {ph ph' : Phys} (v : BitVec w) (h : ph' ≠ ph) :
    (m.write ph v).read ph' = m.read ph' := by
  rw [Arrays.read_write, if_neg h]

theorem PhysArray.mem_all (arr : PhysArray) : arr ∈ PhysArray.all := by cases arr <;> decide

theorem Arrays.wf_iff {w : Nat} (m : Arrays w) : m.wf = true ↔ ∀ arr, Cells.wfFrom 0 (m.get arr) = true := by
  unfold Arrays.wf
  rw [List.all_eq_true]
  exact ⟨fun h arr => h arr arr.mem_all, fun h arr _ => h arr⟩

/-- A write keeps the canonical form. -/
theorem Arrays.wf_write {w : Nat} (m : Arrays w) (ph : Phys) (v : BitVec w) (h : m.wf = true) :
    (m.write ph v).wf = true := by
  rw [Arrays.wf_iff] at h ⊢
  intro arr
  unfold Arrays.write
  by_cases ha : arr = ph.array
  · subst ha; rw [Arrays.get_set_same]; exact Cells.wfFrom_write _ _ _ (h _)
  · rw [Arrays.get_set_other _ _ ha]; exact h arr

/-- A write keeps `Memory.wf`. -/
theorem Memory.wf_write (m : Memory) (ph : Phys) (v : Byte) (h : Memory.wf m = true) :
    Memory.wf (m.write ph v) = true := Arrays.wf_write m ph v h

/-- Memory with nothing listed is canonical. -/
theorem Memory.wf_empty : Memory.wf {} = true := by decide

namespace Machine

theorem within_iff {w : Nat} (b : Backend) (m : Arrays w) :
    Arrays.within b m = true ↔ ∀ arr, Cells.below (Backend.size b arr) (m.get arr) = true := by
  unfold Arrays.within
  rw [List.all_eq_true]
  exact ⟨fun h arr => h arr arr.mem_all, fun h arr _ => h arr⟩

/-- A write inside an array keeps every byte inside its array. -/
theorem within_write {w : Nat} (b : Backend) (m : Arrays w) (ph : Phys) (v : BitVec w)
    (h : Arrays.within b m = true) (hp : ph.index < Backend.size b ph.array) :
    Arrays.within b (m.write ph v) = true := by
  rw [within_iff] at h ⊢
  intro arr
  unfold Arrays.write
  by_cases ha : arr = ph.array
  · subst ha; rw [Arrays.get_set_same]; exact Cells.below_write _ _ _ _ (h _) hp
  · rw [Arrays.get_set_other _ _ ha]; exact h arr

/-! ## Resolution -/

theorem trackSectorIndex_lt (sb : Nat) (t s o : Byte) : trackSectorIndex sb t s o < 64 * 2 ^ sb * 256 := by
  unfold trackSectorIndex
  have h1 : (t &&& 0x3F).toNat < 2 ^ 6 := by
    have : (t &&& 0x3F).toNat = t.toNat &&& 63 := by simp [BitVec.toNat_and]
    rw [this]; exact lt_of_le_of_lt Nat.and_le_right (by norm_num)
  have h2 : (t &&& 0x3F).toNat <<< sb < 2 ^ (6 + sb) := by
    rw [Nat.shiftLeft_eq, pow_add]; exact Nat.mul_lt_mul_of_pos_right h1 (by positivity)
  have h3 : s.toNat &&& (2 ^ sb - 1) < 2 ^ (6 + sb) := by
    refine lt_of_le_of_lt Nat.and_le_right ?_
    have : 2 ^ sb ≤ 2 ^ (6 + sb) := Nat.pow_le_pow_right (by norm_num) (by omega)
    have : 0 < 2 ^ sb := by positivity
    omega
  have h4 := Nat.or_lt_two_pow h2 h3
  have h5 : ((t &&& 0x3F).toNat <<< sb ||| s.toNat &&& (2 ^ sb - 1)) <<< 8 < 2 ^ (6 + sb + 8) := by
    rw [Nat.shiftLeft_eq, pow_add]; exact Nat.mul_lt_mul_of_pos_right h4 (by positivity)
  have h6 : o.toNat < 2 ^ (6 + sb + 8) := by
    refine lt_of_lt_of_le o.isLt (Nat.pow_le_pow_right (by norm_num) (by omega))
  have h7 := Nat.or_lt_two_pow h5 h6
  have h8 : 2 ^ (6 + sb + 8) = 64 * 2 ^ sb * 256 := by rw [pow_add, pow_add]; norm_num
  omega

/-- Every physical byte the resolver yields lies inside its array. -/
theorem resolve_in_bounds (b : Backend) (m : Memory) (a : Addr) (ph : Phys) (h : resolve b m a = some ph) :
    ph.index < Backend.size b ph.array := by
  have ha := a.isLt
  cases b with
  | linear n =>
    simp only [resolve, resolveLinear] at h
    split at h
    · cases h; simpa [Backend.size]
    · cases h
  | bankSwitched r o =>
    simp only [resolve, resolveBankSwitched] at h
    split at h
    · cases h; simpa [Backend.size]
    · split at h
      · split at h
        · cases h; simp only [Backend.size]; omega
        · cases h
      · split at h
        · cases h; simp only [Backend.size]; omega
        · cases h
  | trackSector c t s p =>
    simp only [resolve, resolveTrackSector] at h
    split at h
    · cases h; exact trackSectorIndex_lt _ _ _ _
    · cases h; simpa [Backend.size] using ha
  | mmu n =>
    simp only [resolve, resolveMmu] at h
    split at h
    · cases h; simp [Backend.size]
    · split at h
      · cases h; simp [Backend.size]
      · split at h
        · cases h
          have := ((memCtrl m).extractLsb' 4 2).isLt
          simp only [Backend.size, editLut]; omega
        · split at h
          · cases h
            have := ((ioCtrl m).extractLsb' 0 2).isLt
            simp only [Backend.size, ioPage]; omega
          · split at h
            · cases h; simp only [Backend.size]; omega
            · cases h

/-- Resolution depends on the control bytes alone. -/
theorem resolve_congr (b : Backend) (m m' : Memory) (a : Addr)
    (h : ∀ ph, isControlByte b ph = true → m'.read ph = m.read ph) : resolve b m' a = resolve b m a := by
  cases b with
  | linear n => rfl
  | bankSwitched r o =>
    have h0 : m'.read ⟨.low, 0⟩ = m.read ⟨.low, 0⟩ := h _ (by simp [isControlByte])
    have h1 : m'.read ⟨.low, 1⟩ = m.read ⟨.low, 1⟩ := h _ (by simp [isControlByte])
    have hr : ramSel m' = ramSel m := by unfold ramSel; rw [h0]
    have ho : romSel m' = romSel m := by unfold romSel; rw [h1]
    simp only [resolve, resolveBankSwitched]; rw [hr, ho]
  | trackSector c t s p =>
    have h0 : m'.read ⟨.base, t.toNat⟩ = m.read ⟨.base, t.toNat⟩ := h _ (by simp [isControlByte])
    have h1 : m'.read ⟨.base, s.toNat⟩ = m.read ⟨.base, s.toNat⟩ := h _ (by simp [isControlByte])
    simp only [resolve, resolveTrackSector, h0, h1]
  | mmu n =>
    have h0 : m'.read ⟨.ctrl, 0⟩ = m.read ⟨.ctrl, 0⟩ := h _ (by simp [isControlByte])
    have h1 : m'.read ⟨.ctrl, 1⟩ = m.read ⟨.ctrl, 1⟩ := h _ (by simp [isControlByte])
    have h2 : ∀ k, m'.read ⟨.lut, k⟩ = m.read ⟨.lut, k⟩ := fun k => h _ (by simp [isControlByte])
    have hm : memCtrl m' = memCtrl m := h0
    have hi : ioCtrl m' = ioCtrl m := h1
    have hl : ∀ k r, lutEntry m' k r = lutEntry m k r := fun k r => by unfold lutEntry; rw [h2]
    have e1 : editEn m' = editEn m := by unfold editEn; rw [hm]
    have e2 : editLut m' = editLut m := by unfold editLut; rw [hm]
    have e3 : actLut m' = actLut m := by unfold actLut; rw [hm]
    have e4 : ioDisable m' = ioDisable m := by unfold ioDisable; rw [hi]
    have e5 : ioPage m' = ioPage m := by unfold ioPage; rw [hi]
    unfold resolve resolveMmu
    dsimp only
    rw [e1, e2, e3, e4, e5, hl]

/-- A store to a byte that is no control byte leaves every resolution as it was. -/
theorem resolve_write (b : Backend) (m : Memory) (ph : Phys) (v : Byte) (a : Addr) (h : isControlByte b ph = false) :
    resolve b (m.write ph v) a = resolve b m a := by
  refine resolve_congr b _ _ a fun ph' h' => Arrays.read_write_other m v ?_
  intro he; subst he; rw [h] at h'; cases h'

/-- Where an address of page 1 resolves to is not changed by a store through an address of page 1. -/
theorem resolve_page1_write (b : Backend) (m : Memory) (ph : Phys) (v : Byte) (a a' : Addr)
    (ha : hi8 a = 1) (ha' : hi8 a' = 1) (h : resolve b m a = some ph) :
    resolve b (m.write ph v) a' = resolve b m a' := by
  have hn : ∀ a : Addr, hi8 a = 1 → a.toNat / 256 = 1 := by
    intro a h
    have h2 : (hi8 a).toNat = 1 := by rw [h]; rfl
    have h3 := a.isLt
    simp [hi8, BitVec.extractLsb'_toNat, Nat.shiftRight_eq_div_pow] at h2
    omega
  have na := hn a ha
  have na' := hn a' ha'
  cases b with
  | linear n => rfl
  | bankSwitched r o =>
    have e : ∀ m : Memory, resolve (.bankSwitched r o) m a' = some ⟨.low, a'.toNat⟩ := fun m => by
      simp only [resolve, resolveBankSwitched]; rw [if_pos (by omega)]
    rw [e, e]
  | trackSector c t s p =>
    simp only [resolve, resolveTrackSector] at h ⊢
    have e : hi8 a = hi8 a' := ha.trans ha'.symm
    by_cases hw : hi8 a' = p
    · rw [if_pos (e.trans hw)] at h
      cases h
      rw [if_pos hw, if_pos hw, Arrays.read_write_other _ _ (by simp), Arrays.read_write_other _ _ (by simp)]
    · rw [if_neg hw, if_neg hw]
  | mmu n =>
    have hne : ∀ k : Addr, k.toNat / 256 ≠ 1 → a ≠ k := fun k hk e => hk (e ▸ na)
    have hsys : isControlByte (.mmu n) ph = false := by
      simp only [resolve, resolveMmu] at h
      rw [if_neg (hne _ (by decide)), if_neg (hne _ (by decide)), if_neg (by omega), if_neg (by omega)] at h
      split at h
      · cases h; rfl
      · cases h
    rw [resolve_write _ _ _ _ _ hsys]

end Machine
end Sys2Proof
end

