-- ==== Sys2Proof/Laws/State.lean ====
section
/-! SUPPORT. One lemma per field per update of State, each true by definition, so that no proof unfolds a record update. -/

namespace Sys2Proof.Machine

/-! ## setA -/

@[simp] theorem State.setA_cfg (s : State) (v : Byte) : (s.setA v).cfg = s.cfg := rfl
@[simp] theorem State.setA_a (s : State) (v : Byte) : (s.setA v).a = v := rfl
@[simp] theorem State.setA_x (s : State) (v : Byte) : (s.setA v).x = s.x := rfl
@[simp] theorem State.setA_y (s : State) (v : Byte) : (s.setA v).y = s.y := rfl
@[simp] theorem State.setA_sp (s : State) (v : Byte) : (s.setA v).sp = s.sp := rfl
@[simp] theorem State.setA_p (s : State) (v : Byte) : (s.setA v).p = s.p := rfl
@[simp] theorem State.setA_pc (s : State) (v : Byte) : (s.setA v).pc = s.pc := rfl
@[simp] theorem State.setA_cycles (s : State) (v : Byte) : (s.setA v).cycles = s.cycles := rfl
@[simp] theorem State.setA_status (s : State) (v : Byte) : (s.setA v).status = s.status := rfl
@[simp] theorem State.setA_fault (s : State) (v : Byte) : (s.setA v).fault = s.fault := rfl
@[simp] theorem State.setA_mem (s : State) (v : Byte) : (s.setA v).mem = s.mem := rfl
@[simp] theorem State.setA_counts (s : State) (v : Byte) : (s.setA v).counts = s.counts := rfl
@[simp] theorem State.setA_snap (s : State) (v : Byte) : (s.setA v).snap = s.snap := rfl
@[simp] theorem State.setA_draws (s : State) (v : Byte) : (s.setA v).draws = s.draws := rfl
@[simp] theorem State.setA_sinkCalls (s : State) (v : Byte) : (s.setA v).sinkCalls = s.sinkCalls := rfl
@[simp] theorem State.setA_commands (s : State) (v : Byte) : (s.setA v).commands = s.commands := rfl
@[simp] theorem State.setA_replies (s : State) (v : Byte) : (s.setA v).replies = s.replies := rfl

/-! ## setX -/

@[simp] theorem State.setX_cfg (s : State) (v : Byte) : (s.setX v).cfg = s.cfg := rfl
@[simp] theorem State.setX_a (s : State) (v : Byte) : (s.setX v).a = s.a := rfl
@[simp] theorem State.setX_x (s : State) (v : Byte) : (s.setX v).x = v := rfl
@[simp] theorem State.setX_y (s : State) (v : Byte) : (s.setX v).y = s.y := rfl
@[simp] theorem State.setX_sp (s : State) (v : Byte) : (s.setX v).sp = s.sp := rfl
@[simp] theorem State.setX_p (s : State) (v : Byte) : (s.setX v).p = s.p := rfl
@[simp] theorem State.setX_pc (s : State) (v : Byte) : (s.setX v).pc = s.pc := rfl
@[simp] theorem State.setX_cycles (s : State) (v : Byte) : (s.setX v).cycles = s.cycles := rfl
@[simp] theorem State.setX_status (s : State) (v : Byte) : (s.setX v).status = s.status := rfl
@[simp] theorem State.setX_fault (s : State) (v : Byte) : (s.setX v).fault = s.fault := rfl
@[simp] theorem State.setX_mem (s : State) (v : Byte) : (s.setX v).mem = s.mem := rfl
@[simp] theorem State.setX_counts (s : State) (v : Byte) : (s.setX v).counts = s.counts := rfl
@[simp] theorem State.setX_snap (s : State) (v : Byte) : (s.setX v).snap = s.snap := rfl
@[simp] theorem State.setX_draws (s : State) (v : Byte) : (s.setX v).draws = s.draws := rfl
@[simp] theorem State.setX_sinkCalls (s : State) (v : Byte) : (s.setX v).sinkCalls = s.sinkCalls := rfl
@[simp] theorem State.setX_commands (s : State) (v : Byte) : (s.setX v).commands = s.commands := rfl
@[simp] theorem State.setX_replies (s : State) (v : Byte) : (s.setX v).replies = s.replies := rfl

/-! ## setY -/

@[simp] theorem State.setY_cfg (s : State) (v : Byte) : (s.setY v).cfg = s.cfg := rfl
@[simp] theorem State.setY_a (s : State) (v : Byte) : (s.setY v).a = s.a := rfl
@[simp] theorem State.setY_x (s : State) (v : Byte) : (s.setY v).x = s.x := rfl
@[simp] theorem State.setY_y (s : State) (v : Byte) : (s.setY v).y = v := rfl
@[simp] theorem State.setY_sp (s : State) (v : Byte) : (s.setY v).sp = s.sp := rfl
@[simp] theorem State.setY_p (s : State) (v : Byte) : (s.setY v).p = s.p := rfl
@[simp] theorem State.setY_pc (s : State) (v : Byte) : (s.setY v).pc = s.pc := rfl
@[simp] theorem State.setY_cycles (s : State) (v : Byte) : (s.setY v).cycles = s.cycles := rfl
@[simp] theorem State.setY_status (s : State) (v : Byte) : (s.setY v).status = s.status := rfl
@[simp] theorem State.setY_fault (s : State) (v : Byte) : (s.setY v).fault = s.fault := rfl
@[simp] theorem State.setY_mem (s : State) (v : Byte) : (s.setY v).mem = s.mem := rfl
@[simp] theorem State.setY_counts (s : State) (v : Byte) : (s.setY v).counts = s.counts := rfl
@[simp] theorem State.setY_snap (s : State) (v : Byte) : (s.setY v).snap = s.snap := rfl
@[simp] theorem State.setY_draws (s : State) (v : Byte) : (s.setY v).draws = s.draws := rfl
@[simp] theorem State.setY_sinkCalls (s : State) (v : Byte) : (s.setY v).sinkCalls = s.sinkCalls := rfl
@[simp] theorem State.setY_commands (s : State) (v : Byte) : (s.setY v).commands = s.commands := rfl
@[simp] theorem State.setY_replies (s : State) (v : Byte) : (s.setY v).replies = s.replies := rfl

/-! ## setSp -/

@[simp] theorem State.setSp_cfg (s : State) (v : Byte) : (s.setSp v).cfg = s.cfg := rfl
@[simp] theorem State.setSp_a (s : State) (v : Byte) : (s.setSp v).a = s.a := rfl
@[simp] theorem State.setSp_x (s : State) (v : Byte) : (s.setSp v).x = s.x := rfl
@[simp] theorem State.setSp_y (s : State) (v : Byte) : (s.setSp v).y = s.y := rfl
@[simp] theorem State.setSp_sp (s : State) (v : Byte) : (s.setSp v).sp = v := rfl
@[simp] theorem State.setSp_p (s : State) (v : Byte) : (s.setSp v).p = s.p := rfl
@[simp] theorem State.setSp_pc (s : State) (v : Byte) : (s.setSp v).pc = s.pc := rfl
@[simp] theorem State.setSp_cycles (s : State) (v : Byte) : (s.setSp v).cycles = s.cycles := rfl
@[simp] theorem State.setSp_status (s : State) (v : Byte) : (s.setSp v).status = s.status := rfl
@[simp] theorem State.setSp_fault (s : State) (v : Byte) : (s.setSp v).fault = s.fault := rfl
@[simp] theorem State.setSp_mem (s : State) (v : Byte) : (s.setSp v).mem = s.mem := rfl
@[simp] theorem State.setSp_counts (s : State) (v : Byte) : (s.setSp v).counts = s.counts := rfl
@[simp] theorem State.setSp_snap (s : State) (v : Byte) : (s.setSp v).snap = s.snap := rfl
@[simp] theorem State.setSp_draws (s : State) (v : Byte) : (s.setSp v).draws = s.draws := rfl
@[simp] theorem State.setSp_sinkCalls (s : State) (v : Byte) : (s.setSp v).sinkCalls = s.sinkCalls := rfl
@[simp] theorem State.setSp_commands (s : State) (v : Byte) : (s.setSp v).commands = s.commands := rfl
@[simp] theorem State.setSp_replies (s : State) (v : Byte) : (s.setSp v).replies = s.replies := rfl

/-! ## setP -/

@[simp] theorem State.setP_cfg (s : State) (v : Byte) : (s.setP v).cfg = s.cfg := rfl
@[simp] theorem State.setP_a (s : State) (v : Byte) : (s.setP v).a = s.a := rfl
@[simp] theorem State.setP_x (s : State) (v : Byte) : (s.setP v).x = s.x := rfl
@[simp] theorem State.setP_y (s : State) (v : Byte) : (s.setP v).y = s.y := rfl
@[simp] theorem State.setP_sp (s : State) (v : Byte) : (s.setP v).sp = s.sp := rfl
@[simp] theorem State.setP_p (s : State) (v : Byte) : (s.setP v).p = v := rfl
@[simp] theorem State.setP_pc (s : State) (v : Byte) : (s.setP v).pc = s.pc := rfl
@[simp] theorem State.setP_cycles (s : State) (v : Byte) : (s.setP v).cycles = s.cycles := rfl
@[simp] theorem State.setP_status (s : State) (v : Byte) : (s.setP v).status = s.status := rfl
@[simp] theorem State.setP_fault (s : State) (v : Byte) : (s.setP v).fault = s.fault := rfl
@[simp] theorem State.setP_mem (s : State) (v : Byte) : (s.setP v).mem = s.mem := rfl
@[simp] theorem State.setP_counts (s : State) (v : Byte) : (s.setP v).counts = s.counts := rfl
@[simp] theorem State.setP_snap (s : State) (v : Byte) : (s.setP v).snap = s.snap := rfl
@[simp] theorem State.setP_draws (s : State) (v : Byte) : (s.setP v).draws = s.draws := rfl
@[simp] theorem State.setP_sinkCalls (s : State) (v : Byte) : (s.setP v).sinkCalls = s.sinkCalls := rfl
@[simp] theorem State.setP_commands (s : State) (v : Byte) : (s.setP v).commands = s.commands := rfl
@[simp] theorem State.setP_replies (s : State) (v : Byte) : (s.setP v).replies = s.replies := rfl

/-! ## setPc -/

@[simp] theorem State.setPc_cfg (s : State) (v : Addr) : (s.setPc v).cfg = s.cfg := rfl
@[simp] theorem State.setPc_a (s : State) (v : Addr) : (s.setPc v).a = s.a := rfl
@[simp] theorem State.setPc_x (s : State) (v : Addr) : (s.setPc v).x = s.x := rfl
@[simp] theorem State.setPc_y (s : State) (v : Addr) : (s.setPc v).y = s.y := rfl
@[simp] theorem State.setPc_sp (s : State) (v : Addr) : (s.setPc v).sp = s.sp := rfl
@[simp] theorem State.setPc_p (s : State) (v : Addr) : (s.setPc v).p = s.p := rfl
@[simp] theorem State.setPc_pc (s : State) (v : Addr) : (s.setPc v).pc = v := rfl
@[simp] theorem State.setPc_cycles (s : State) (v : Addr) : (s.setPc v).cycles = s.cycles := rfl
@[simp] theorem State.setPc_status (s : State) (v : Addr) : (s.setPc v).status = s.status := rfl
@[simp] theorem State.setPc_fault (s : State) (v : Addr) : (s.setPc v).fault = s.fault := rfl
@[simp] theorem State.setPc_mem (s : State) (v : Addr) : (s.setPc v).mem = s.mem := rfl
@[simp] theorem State.setPc_counts (s : State) (v : Addr) : (s.setPc v).counts = s.counts := rfl
@[simp] theorem State.setPc_snap (s : State) (v : Addr) : (s.setPc v).snap = s.snap := rfl
@[simp] theorem State.setPc_draws (s : State) (v : Addr) : (s.setPc v).draws = s.draws := rfl
@[simp] theorem State.setPc_sinkCalls (s : State) (v : Addr) : (s.setPc v).sinkCalls = s.sinkCalls := rfl
@[simp] theorem State.setPc_commands (s : State) (v : Addr) : (s.setPc v).commands = s.commands := rfl
@[simp] theorem State.setPc_replies (s : State) (v : Addr) : (s.setPc v).replies = s.replies := rfl

/-! ## putFlag -/

@[simp] theorem State.putFlag_cfg (s : State) (f : Flag) (v : Bool) : (s.putFlag f v).cfg = s.cfg := rfl
@[simp] theorem State.putFlag_a (s : State) (f : Flag) (v : Bool) : (s.putFlag f v).a = s.a := rfl
@[simp] theorem State.putFlag_x (s : State) (f : Flag) (v : Bool) : (s.putFlag f v).x = s.x := rfl
@[simp] theorem State.putFlag_y (s : State) (f : Flag) (v : Bool) : (s.putFlag f v).y = s.y := rfl
@[simp] theorem State.putFlag_sp (s : State) (f : Flag) (v : Bool) : (s.putFlag f v).sp = s.sp := rfl
@[simp] theorem State.putFlag_p (s : State) (f : Flag) (v : Bool) : (s.putFlag f v).p = setFlag s.p f v := rfl
@[simp] theorem State.putFlag_pc (s : State) (f : Flag) (v : Bool) : (s.putFlag f v).pc = s.pc := rfl
@[simp] theorem State.putFlag_cycles (s : State) (f : Flag) (v : Bool) : (s.putFlag f v).cycles = s.cycles := rfl
@[simp] theorem State.putFlag_status (s : State) (f : Flag) (v : Bool) : (s.putFlag f v).status = s.status := rfl
@[simp] theorem State.putFlag_fault (s : State) (f : Flag) (v : Bool) : (s.putFlag f v).fault = s.fault := rfl
@[simp] theorem State.putFlag_mem (s : State) (f : Flag) (v : Bool) : (s.putFlag f v).mem = s.mem := rfl
@[simp] theorem State.putFlag_counts (s : State) (f : Flag) (v : Bool) : (s.putFlag f v).counts = s.counts := rfl
@[simp] theorem State.putFlag_snap (s : State) (f : Flag) (v : Bool) : (s.putFlag f v).snap = s.snap := rfl
@[simp] theorem State.putFlag_draws (s : State) (f : Flag) (v : Bool) : (s.putFlag f v).draws = s.draws := rfl
@[simp] theorem State.putFlag_sinkCalls (s : State) (f : Flag) (v : Bool) : (s.putFlag f v).sinkCalls = s.sinkCalls := rfl
@[simp] theorem State.putFlag_commands (s : State) (f : Flag) (v : Bool) : (s.putFlag f v).commands = s.commands := rfl
@[simp] theorem State.putFlag_replies (s : State) (f : Flag) (v : Bool) : (s.putFlag f v).replies = s.replies := rfl

/-! ## loadA -/

@[simp] theorem State.loadA_cfg (s : State) (v : Byte) : (s.loadA v).cfg = s.cfg := rfl
@[simp] theorem State.loadA_a (s : State) (v : Byte) : (s.loadA v).a = v := rfl
@[simp] theorem State.loadA_x (s : State) (v : Byte) : (s.loadA v).x = s.x := rfl
@[simp] theorem State.loadA_y (s : State) (v : Byte) : (s.loadA v).y = s.y := rfl
@[simp] theorem State.loadA_sp (s : State) (v : Byte) : (s.loadA v).sp = s.sp := rfl
@[simp] theorem State.loadA_p (s : State) (v : Byte) : (s.loadA v).p = setNZ s.p v := rfl
@[simp] theorem State.loadA_pc (s : State) (v : Byte) : (s.loadA v).pc = s.pc := rfl
@[simp] theorem State.loadA_cycles (s : State) (v : Byte) : (s.loadA v).cycles = s.cycles := rfl
@[simp] theorem State.loadA_status (s : State) (v : Byte) : (s.loadA v).status = s.status := rfl
@[simp] theorem State.loadA_fault (s : State) (v : Byte) : (s.loadA v).fault = s.fault := rfl
@[simp] theorem State.loadA_mem (s : State) (v : Byte) : (s.loadA v).mem = s.mem := rfl
@[simp] theorem State.loadA_counts (s : State) (v : Byte) : (s.loadA v).counts = s.counts := rfl
@[simp] theorem State.loadA_snap (s : State) (v : Byte) : (s.loadA v).snap = s.snap := rfl
@[simp] theorem State.loadA_draws (s : State) (v : Byte) : (s.loadA v).draws = s.draws := rfl
@[simp] theorem State.loadA_sinkCalls (s : State) (v : Byte) : (s.loadA v).sinkCalls = s.sinkCalls := rfl
@[simp] theorem State.loadA_commands (s : State) (v : Byte) : (s.loadA v).commands = s.commands := rfl
@[simp] theorem State.loadA_replies (s : State) (v : Byte) : (s.loadA v).replies = s.replies := rfl

/-! ## loadX -/

@[simp] theorem State.loadX_cfg (s : State) (v : Byte) : (s.loadX v).cfg = s.cfg := rfl
@[simp] theorem State.loadX_a (s : State) (v : Byte) : (s.loadX v).a = s.a := rfl
@[simp] theorem State.loadX_x (s : State) (v : Byte) : (s.loadX v).x = v := rfl
@[simp] theorem State.loadX_y (s : State) (v : Byte) : (s.loadX v).y = s.y := rfl
@[simp] theorem State.loadX_sp (s : State) (v : Byte) : (s.loadX v).sp = s.sp := rfl
@[simp] theorem State.loadX_p (s : State) (v : Byte) : (s.loadX v).p = setNZ s.p v := rfl
@[simp] theorem State.loadX_pc (s : State) (v : Byte) : (s.loadX v).pc = s.pc := rfl
@[simp] theorem State.loadX_cycles (s : State) (v : Byte) : (s.loadX v).cycles = s.cycles := rfl
@[simp] theorem State.loadX_status (s : State) (v : Byte) : (s.loadX v).status = s.status := rfl
@[simp] theorem State.loadX_fault (s : State) (v : Byte) : (s.loadX v).fault = s.fault := rfl
@[simp] theorem State.loadX_mem (s : State) (v : Byte) : (s.loadX v).mem = s.mem := rfl
@[simp] theorem State.loadX_counts (s : State) (v : Byte) : (s.loadX v).counts = s.counts := rfl
@[simp] theorem State.loadX_snap (s : State) (v : Byte) : (s.loadX v).snap = s.snap := rfl
@[simp] theorem State.loadX_draws (s : State) (v : Byte) : (s.loadX v).draws = s.draws := rfl
@[simp] theorem State.loadX_sinkCalls (s : State) (v : Byte) : (s.loadX v).sinkCalls = s.sinkCalls := rfl
@[simp] theorem State.loadX_commands (s : State) (v : Byte) : (s.loadX v).commands = s.commands := rfl
@[simp] theorem State.loadX_replies (s : State) (v : Byte) : (s.loadX v).replies = s.replies := rfl

/-! ## loadY -/

@[simp] theorem State.loadY_cfg (s : State) (v : Byte) : (s.loadY v).cfg = s.cfg := rfl
@[simp] theorem State.loadY_a (s : State) (v : Byte) : (s.loadY v).a = s.a := rfl
@[simp] theorem State.loadY_x (s : State) (v : Byte) : (s.loadY v).x = s.x := rfl
@[simp] theorem State.loadY_y (s : State) (v : Byte) : (s.loadY v).y = v := rfl
@[simp] theorem State.loadY_sp (s : State) (v : Byte) : (s.loadY v).sp = s.sp := rfl
@[simp] theorem State.loadY_p (s : State) (v : Byte) : (s.loadY v).p = setNZ s.p v := rfl
@[simp] theorem State.loadY_pc (s : State) (v : Byte) : (s.loadY v).pc = s.pc := rfl
@[simp] theorem State.loadY_cycles (s : State) (v : Byte) : (s.loadY v).cycles = s.cycles := rfl
@[simp] theorem State.loadY_status (s : State) (v : Byte) : (s.loadY v).status = s.status := rfl
@[simp] theorem State.loadY_fault (s : State) (v : Byte) : (s.loadY v).fault = s.fault := rfl
@[simp] theorem State.loadY_mem (s : State) (v : Byte) : (s.loadY v).mem = s.mem := rfl
@[simp] theorem State.loadY_counts (s : State) (v : Byte) : (s.loadY v).counts = s.counts := rfl
@[simp] theorem State.loadY_snap (s : State) (v : Byte) : (s.loadY v).snap = s.snap := rfl
@[simp] theorem State.loadY_draws (s : State) (v : Byte) : (s.loadY v).draws = s.draws := rfl
@[simp] theorem State.loadY_sinkCalls (s : State) (v : Byte) : (s.loadY v).sinkCalls = s.sinkCalls := rfl
@[simp] theorem State.loadY_commands (s : State) (v : Byte) : (s.loadY v).commands = s.commands := rfl
@[simp] theorem State.loadY_replies (s : State) (v : Byte) : (s.loadY v).replies = s.replies := rfl

/-! ## addCycles -/

@[simp] theorem State.addCycles_cfg (s : State) (n : Nat) : (s.addCycles n).cfg = s.cfg := rfl
@[simp] theorem State.addCycles_a (s : State) (n : Nat) : (s.addCycles n).a = s.a := rfl
@[simp] theorem State.addCycles_x (s : State) (n : Nat) : (s.addCycles n).x = s.x := rfl
@[simp] theorem State.addCycles_y (s : State) (n : Nat) : (s.addCycles n).y = s.y := rfl
@[simp] theorem State.addCycles_sp (s : State) (n : Nat) : (s.addCycles n).sp = s.sp := rfl
@[simp] theorem State.addCycles_p (s : State) (n : Nat) : (s.addCycles n).p = s.p := rfl
@[simp] theorem State.addCycles_pc (s : State) (n : Nat) : (s.addCycles n).pc = s.pc := rfl
@[simp] theorem State.addCycles_cycles (s : State) (n : Nat) : (s.addCycles n).cycles = s.cycles + BitVec.ofNat 64 n := rfl
@[simp] theorem State.addCycles_status (s : State) (n : Nat) : (s.addCycles n).status = s.status := rfl
@[simp] theorem State.addCycles_fault (s : State) (n : Nat) : (s.addCycles n).fault = s.fault := rfl
@[simp] theorem State.addCycles_mem (s : State) (n : Nat) : (s.addCycles n).mem = s.mem := rfl
@[simp] theorem State.addCycles_counts (s : State) (n : Nat) : (s.addCycles n).counts = s.counts := rfl
@[simp] theorem State.addCycles_snap (s : State) (n : Nat) : (s.addCycles n).snap = s.snap := rfl
@[simp] theorem State.addCycles_draws (s : State) (n : Nat) : (s.addCycles n).draws = s.draws := rfl
@[simp] theorem State.addCycles_sinkCalls (s : State) (n : Nat) : (s.addCycles n).sinkCalls = s.sinkCalls := rfl
@[simp] theorem State.addCycles_commands (s : State) (n : Nat) : (s.addCycles n).commands = s.commands := rfl
@[simp] theorem State.addCycles_replies (s : State) (n : Nat) : (s.addCycles n).replies = s.replies := rfl

/-! ## reply -/

@[simp] theorem State.reply_cfg (s : State) (r : HostReply) : (s.reply r).cfg = s.cfg := rfl
@[simp] theorem State.reply_a (s : State) (r : HostReply) : (s.reply r).a = s.a := rfl
@[simp] theorem State.reply_x (s : State) (r : HostReply) : (s.reply r).x = s.x := rfl
@[simp] theorem State.reply_y (s : State) (r : HostReply) : (s.reply r).y = s.y := rfl
@[simp] theorem State.reply_sp (s : State) (r : HostReply) : (s.reply r).sp = s.sp := rfl
@[simp] theorem State.reply_p (s : State) (r : HostReply) : (s.reply r).p = s.p := rfl
@[simp] theorem State.reply_pc (s : State) (r : HostReply) : (s.reply r).pc = s.pc := rfl
@[simp] theorem State.reply_cycles (s : State) (r : HostReply) : (s.reply r).cycles = s.cycles := rfl
@[simp] theorem State.reply_status (s : State) (r : HostReply) : (s.reply r).status = s.status := rfl
@[simp] theorem State.reply_fault (s : State) (r : HostReply) : (s.reply r).fault = s.fault := rfl
@[simp] theorem State.reply_mem (s : State) (r : HostReply) : (s.reply r).mem = s.mem := rfl
@[simp] theorem State.reply_counts (s : State) (r : HostReply) : (s.reply r).counts = s.counts := rfl
@[simp] theorem State.reply_snap (s : State) (r : HostReply) : (s.reply r).snap = s.snap := rfl
@[simp] theorem State.reply_draws (s : State) (r : HostReply) : (s.reply r).draws = s.draws := rfl
@[simp] theorem State.reply_sinkCalls (s : State) (r : HostReply) : (s.reply r).sinkCalls = s.sinkCalls := rfl
@[simp] theorem State.reply_commands (s : State) (r : HostReply) : (s.reply r).commands = s.commands := rfl
@[simp] theorem State.reply_replies (s : State) (r : HostReply) : (s.reply r).replies = s.replies ++ [r] := rfl

/-! ## count -/

@[simp] theorem State.count_cfg (s : State) (ph : Phys) : (s.count ph).cfg = s.cfg := rfl
@[simp] theorem State.count_a (s : State) (ph : Phys) : (s.count ph).a = s.a := rfl
@[simp] theorem State.count_x (s : State) (ph : Phys) : (s.count ph).x = s.x := rfl
@[simp] theorem State.count_y (s : State) (ph : Phys) : (s.count ph).y = s.y := rfl
@[simp] theorem State.count_sp (s : State) (ph : Phys) : (s.count ph).sp = s.sp := rfl
@[simp] theorem State.count_p (s : State) (ph : Phys) : (s.count ph).p = s.p := rfl
@[simp] theorem State.count_pc (s : State) (ph : Phys) : (s.count ph).pc = s.pc := rfl
@[simp] theorem State.count_cycles (s : State) (ph : Phys) : (s.count ph).cycles = s.cycles := rfl
@[simp] theorem State.count_status (s : State) (ph : Phys) : (s.count ph).status = s.status := rfl
@[simp] theorem State.count_fault (s : State) (ph : Phys) : (s.count ph).fault = s.fault := rfl
@[simp] theorem State.count_mem (s : State) (ph : Phys) : (s.count ph).mem = s.mem := rfl
@[simp] theorem State.count_counts (s : State) (ph : Phys) : (s.count ph).counts = s.counts.write ph (s.counts.read ph + 1) := rfl
@[simp] theorem State.count_snap (s : State) (ph : Phys) : (s.count ph).snap = s.snap := rfl
@[simp] theorem State.count_draws (s : State) (ph : Phys) : (s.count ph).draws = s.draws := rfl
@[simp] theorem State.count_sinkCalls (s : State) (ph : Phys) : (s.count ph).sinkCalls = s.sinkCalls := rfl
@[simp] theorem State.count_commands (s : State) (ph : Phys) : (s.count ph).commands = s.commands := rfl
@[simp] theorem State.count_replies (s : State) (ph : Phys) : (s.count ph).replies = s.replies := rfl

/-! ## storeAt -/

@[simp] theorem State.storeAt_cfg (s : State) (ph : Phys) (v : Byte) : (s.storeAt ph v).cfg = s.cfg := rfl
@[simp] theorem State.storeAt_a (s : State) (ph : Phys) (v : Byte) : (s.storeAt ph v).a = s.a := rfl
@[simp] theorem State.storeAt_x (s : State) (ph : Phys) (v : Byte) : (s.storeAt ph v).x = s.x := rfl
@[simp] theorem State.storeAt_y (s : State) (ph : Phys) (v : Byte) : (s.storeAt ph v).y = s.y := rfl
@[simp] theorem State.storeAt_sp (s : State) (ph : Phys) (v : Byte) : (s.storeAt ph v).sp = s.sp := rfl
@[simp] theorem State.storeAt_p (s : State) (ph : Phys) (v : Byte) : (s.storeAt ph v).p = s.p := rfl
@[simp] theorem State.storeAt_pc (s : State) (ph : Phys) (v : Byte) : (s.storeAt ph v).pc = s.pc := rfl
@[simp] theorem State.storeAt_cycles (s : State) (ph : Phys) (v : Byte) : (s.storeAt ph v).cycles = s.cycles := rfl
@[simp] theorem State.storeAt_status (s : State) (ph : Phys) (v : Byte) : (s.storeAt ph v).status = s.status := rfl
@[simp] theorem State.storeAt_fault (s : State) (ph : Phys) (v : Byte) : (s.storeAt ph v).fault = s.fault := rfl
@[simp] theorem State.storeAt_mem (s : State) (ph : Phys) (v : Byte) : (s.storeAt ph v).mem = s.mem.write ph v := rfl
@[simp] theorem State.storeAt_counts (s : State) (ph : Phys) (v : Byte) : (s.storeAt ph v).counts = s.counts.write ph (s.counts.read ph + 1) := rfl
@[simp] theorem State.storeAt_snap (s : State) (ph : Phys) (v : Byte) : (s.storeAt ph v).snap = s.snap := rfl
@[simp] theorem State.storeAt_draws (s : State) (ph : Phys) (v : Byte) : (s.storeAt ph v).draws = s.draws := rfl
@[simp] theorem State.storeAt_sinkCalls (s : State) (ph : Phys) (v : Byte) : (s.storeAt ph v).sinkCalls = s.sinkCalls := rfl
@[simp] theorem State.storeAt_commands (s : State) (ph : Phys) (v : Byte) : (s.storeAt ph v).commands = s.commands := rfl
@[simp] theorem State.storeAt_replies (s : State) (ph : Phys) (v : Byte) : (s.storeAt ph v).replies = s.replies := rfl

/-! ## haltRun -/

@[simp] theorem State.haltRun_cfg (s : State) : (s.haltRun).cfg = s.cfg := rfl
@[simp] theorem State.haltRun_a (s : State) : (s.haltRun).a = s.a := rfl
@[simp] theorem State.haltRun_x (s : State) : (s.haltRun).x = s.x := rfl
@[simp] theorem State.haltRun_y (s : State) : (s.haltRun).y = s.y := rfl
@[simp] theorem State.haltRun_sp (s : State) : (s.haltRun).sp = s.sp := rfl
@[simp] theorem State.haltRun_p (s : State) : (s.haltRun).p = s.p := rfl
@[simp] theorem State.haltRun_pc (s : State) : (s.haltRun).pc = s.pc := rfl
@[simp] theorem State.haltRun_cycles (s : State) : (s.haltRun).cycles = s.cycles := rfl
@[simp] theorem State.haltRun_status (s : State) : (s.haltRun).status = .halted := rfl
@[simp] theorem State.haltRun_fault (s : State) : (s.haltRun).fault = s.fault := rfl
@[simp] theorem State.haltRun_mem (s : State) : (s.haltRun).mem = s.mem := rfl
@[simp] theorem State.haltRun_counts (s : State) : (s.haltRun).counts = s.counts := rfl
@[simp] theorem State.haltRun_snap (s : State) : (s.haltRun).snap = s.snap := rfl
@[simp] theorem State.haltRun_draws (s : State) : (s.haltRun).draws = s.draws := rfl
@[simp] theorem State.haltRun_sinkCalls (s : State) : (s.haltRun).sinkCalls = s.sinkCalls := rfl
@[simp] theorem State.haltRun_commands (s : State) : (s.haltRun).commands = s.commands := rfl
@[simp] theorem State.haltRun_replies (s : State) : (s.haltRun).replies = s.replies ++ [.ok] := rfl

/-! ## startRun -/

@[simp] theorem State.startRun_cfg (s : State) (start : Addr) : (s.startRun start).cfg = s.cfg := rfl
@[simp] theorem State.startRun_a (s : State) (start : Addr) : (s.startRun start).a = s.a := rfl
@[simp] theorem State.startRun_x (s : State) (start : Addr) : (s.startRun start).x = s.x := rfl
@[simp] theorem State.startRun_y (s : State) (start : Addr) : (s.startRun start).y = s.y := rfl
@[simp] theorem State.startRun_sp (s : State) (start : Addr) : (s.startRun start).sp = s.sp := rfl
@[simp] theorem State.startRun_p (s : State) (start : Addr) : (s.startRun start).p = s.p := rfl
@[simp] theorem State.startRun_pc (s : State) (start : Addr) : (s.startRun start).pc = start := rfl
@[simp] theorem State.startRun_cycles (s : State) (start : Addr) : (s.startRun start).cycles = 0 := rfl
@[simp] theorem State.startRun_status (s : State) (start : Addr) : (s.startRun start).status = .running := rfl
@[simp] theorem State.startRun_fault (s : State) (start : Addr) : (s.startRun start).fault = none := rfl
@[simp] theorem State.startRun_mem (s : State) (start : Addr) : (s.startRun start).mem = s.mem := rfl
@[simp] theorem State.startRun_counts (s : State) (start : Addr) : (s.startRun start).counts = s.counts := rfl
@[simp] theorem State.startRun_snap (s : State) (start : Addr) : (s.startRun start).snap = s.snap := rfl
@[simp] theorem State.startRun_draws (s : State) (start : Addr) : (s.startRun start).draws = s.draws := rfl
@[simp] theorem State.startRun_sinkCalls (s : State) (start : Addr) : (s.startRun start).sinkCalls = s.sinkCalls := rfl
@[simp] theorem State.startRun_commands (s : State) (start : Addr) : (s.startRun start).commands = s.commands := rfl
@[simp] theorem State.startRun_replies (s : State) (start : Addr) : (s.startRun start).replies = s.replies := rfl

/-! ## counted -/

@[simp] theorem State.counted_cfg (s : State) (l : List Addr) : (s.counted l).cfg = s.cfg := rfl
@[simp] theorem State.counted_a (s : State) (l : List Addr) : (s.counted l).a = s.a := rfl
@[simp] theorem State.counted_x (s : State) (l : List Addr) : (s.counted l).x = s.x := rfl
@[simp] theorem State.counted_y (s : State) (l : List Addr) : (s.counted l).y = s.y := rfl
@[simp] theorem State.counted_sp (s : State) (l : List Addr) : (s.counted l).sp = s.sp := rfl
@[simp] theorem State.counted_p (s : State) (l : List Addr) : (s.counted l).p = s.p := rfl
@[simp] theorem State.counted_pc (s : State) (l : List Addr) : (s.counted l).pc = s.pc := rfl
@[simp] theorem State.counted_cycles (s : State) (l : List Addr) : (s.counted l).cycles = s.cycles := rfl
@[simp] theorem State.counted_status (s : State) (l : List Addr) : (s.counted l).status = s.status := rfl
@[simp] theorem State.counted_fault (s : State) (l : List Addr) : (s.counted l).fault = s.fault := rfl
@[simp] theorem State.counted_mem (s : State) (l : List Addr) : (s.counted l).mem = s.mem := rfl
@[simp] theorem State.counted_snap (s : State) (l : List Addr) : (s.counted l).snap = s.snap := rfl
@[simp] theorem State.counted_draws (s : State) (l : List Addr) : (s.counted l).draws = s.draws := rfl
@[simp] theorem State.counted_sinkCalls (s : State) (l : List Addr) : (s.counted l).sinkCalls = s.sinkCalls := rfl
@[simp] theorem State.counted_commands (s : State) (l : List Addr) : (s.counted l).commands = s.commands := rfl
@[simp] theorem State.counted_replies (s : State) (l : List Addr) : (s.counted l).replies = s.replies := rfl

end Sys2Proof.Machine
end

