-- ==== Sys2Proof/Laws/Ops.lean ====
section
/-! SUPPORT. What each shared operation of Machine/Ops.lean does, said once: loads, stores, fetching, the stack, taking a
fault, and how a relation that every transaction respects carries over a whole piece of an instruction. -/

namespace Sys2Proof.Machine

/-! ## Sequencing -/

theorem Run.bind_ok {α β : Type} {x : Run α} {f : α → Run β} {s s' : State} {v : α} (h : x s = .ok v s') :
    (x >>= f) s = f v s' := by
  show (EStateM.bind x f) s = _
  unfold EStateM.bind; rw [h]

theorem Run.bind_error {α β : Type} {x : Run α} {f : α → Run β} {s s' : State} {e : FaultRecord}
    (h : x s = .error e s') : (x >>= f) s = .error e s' := by
  show (EStateM.bind x f) s = _
  unfold EStateM.bind; rw [h]

@[simp] theorem Run.pure_apply {α : Type} (v : α) (s : State) : (pure v : Run α) s = .ok v s := rfl

@[simp] theorem Run.pure_bind_apply {α β : Type} (v : α) (f : α → Run β) (s : State) :
    ((pure v : Run α) >>= f) s = f v s := rfl

@[simp] theorem Run.get_bind {β : Type} (f : State → Run β) (s : State) : ((get : Run State) >>= f) s = f s s := rfl

@[simp] theorem Run.modify_apply (g : State → State) (s : State) : (modify g : Run Unit) s = .ok () (g s) := rfl

@[simp] theorem Run.modify_bind {β : Type} (g : State → State) (f : Unit → Run β) (s : State) :
    ((modify g : Run Unit) >>= f) s = f () (g s) := rfl

@[simp] theorem Run.throw_apply {α : Type} (e : FaultRecord) (s : State) : (throw e : Run α) s = .error e s := rfl

@[simp] theorem Run.set_apply (t s : State) : (set t : Run Unit) s = .ok () t := rfl

/-! ## Loads count and change nothing else -/

@[simp] theorem State.counted_nil (s : State) : s.counted [] = s := rfl

theorem State.counted_append (s : State) (l l' : List Addr) : (s.counted l).counted l' = s.counted (l ++ l') := by
  unfold State.counted
  rw [List.foldl_append]
  rfl

@[simp] theorem State.resolve_counted (s : State) (l : List Addr) (a : Addr) : (s.counted l).resolve a = s.resolve a :=
  rfl

@[simp] theorem State.peek_counted (s : State) (l : List Addr) (a : Addr) : (s.counted l).peek a = s.peek a := rfl

@[simp] theorem State.readable_counted (s : State) (l : List Addr) (a : Addr) :
    (s.counted l).readable a = s.readable a := rfl

@[simp] theorem State.storable_counted (s : State) (l : List Addr) (a : Addr) :
    (s.counted l).storable a = s.storable a := rfl

@[simp] theorem State.resolve_setPc (s : State) (v a : Addr) : (s.setPc v).resolve a = s.resolve a := rfl

@[simp] theorem State.peek_setPc (s : State) (v a : Addr) : (s.setPc v).peek a = s.peek a := rfl

@[simp] theorem State.readable_setPc (s : State) (v a : Addr) : (s.setPc v).readable a = s.readable a := rfl

@[simp] theorem State.storable_setPc (s : State) (v a : Addr) : (s.setPc v).storable a = s.storable a := rfl

@[simp] theorem State.resolve_setSp (s : State) (v : Byte) (a : Addr) : (s.setSp v).resolve a = s.resolve a := rfl

@[simp] theorem State.peek_setSp (s : State) (v : Byte) (a : Addr) : (s.setSp v).peek a = s.peek a := rfl

@[simp] theorem State.readable_setSp (s : State) (v : Byte) (a : Addr) : (s.setSp v).readable a = s.readable a := rfl

@[simp] theorem State.peek_setP (s : State) (v : Byte) (a : Addr) : (s.setP v).peek a = s.peek a := rfl

@[simp] theorem State.readable_setP (s : State) (v : Byte) (a : Addr) : (s.setP v).readable a = s.readable a := rfl

theorem State.counted_setPc (s : State) (l : List Addr) (v : Addr) :
    (s.setPc v).counted l = (s.counted l).setPc v := rfl

theorem State.counted_setSp (s : State) (l : List Addr) (v : Byte) :
    (s.setSp v).counted l = (s.counted l).setSp v := rfl

theorem State.counted_setP (s : State) (l : List Addr) (v : Byte) :
    (s.setP v).counted l = (s.counted l).setP v := rfl

theorem State.readable_iff (s : State) (a : Addr) : s.readable a = true ↔ ∃ ph, s.resolve a = some ph :=
  Option.isSome_iff_exists

/-- A load that resolves (R65): the byte, one count, nothing else. -/
theorem memRead_ok {s : State} {a : Addr} (h : s.readable a = true) :
    memRead a s = .ok (s.peek a) (s.counted [a]) := by
  obtain ⟨ph, hp⟩ := (s.readable_iff a).1 h
  simp [memRead, State.peek, State.counted, State.count, hp]

/-- A load that does not resolve (R65): `OutOfRange` and no effect. -/
theorem memRead_error {s : State} {a : Addr} (h : s.readable a = false) :
    memRead a s = .error (.outOfRange a .load) s := by
  have hp : s.resolve a = none := by simpa [State.readable] using h
  simp [memRead, hp]

/-! ## Stores -/

/-- A store to an address with no sink, which resolves (R66, R102). -/
theorem memWrite_ok {s : State} {a : Addr} {ph : Phys} (v : Byte) (hs : s.sinkAt a = none)
    (hp : s.resolve a = some ph) : memWrite a v s = .ok () (s.storeAt ph v) := by
  simp [memWrite, backendStore, hs, hp]

/-- A store to an address with no sink, which does not resolve: `OutOfRange` and no effect. -/
theorem memWrite_error {s : State} {a : Addr} (v : Byte) (hs : s.sinkAt a = none) (hp : s.resolve a = none) :
    memWrite a v s = .error (.outOfRange a .store) s := by
  simp [memWrite, backendStore, hs, hp]

/-- A store to an address with a sink goes to the sink (R102). -/
theorem memWrite_sink {s : State} {a : Addr} {k : Nat} (v : Byte) (hs : s.sinkAt a = some k) :
    memWrite a v s = sinkWrite k a v s := by
  simp [memWrite, hs]

/-- What `storable` says. -/
theorem State.storable_iff (s : State) (a : Addr) :
    s.storable a = true ↔ s.sinkAt a = none ∧ ∃ ph, s.resolve a = some ph := by
  simp [State.storable, State.readable, Option.isSome_iff_exists]

theorem State.storable_of {s : State} {a : Addr} {ph : Phys} (hs : s.sinkAt a = none) (hp : s.resolve a = some ph) :
    s.storable a = true := (s.storable_iff a).2 ⟨hs, ph, hp⟩

/-! ## Fetching -/

/-- A fetch that resolves (R164). -/
theorem fetchByte_ok {s : State} (h : s.readable s.pc = true) :
    fetchByte s = .ok (s.peek s.pc) ((s.counted [s.pc]).setPc (s.pc + 1)) := by
  unfold fetchByte
  rw [Run.get_bind, Run.bind_ok (memRead_ok h)]
  rfl

theorem fetchByte_error {s : State} (h : s.readable s.pc = false) :
    fetchByte s = .error (.outOfRange s.pc .load) s := by
  unfold fetchByte
  rw [Run.get_bind, Run.bind_error (memRead_error h)]

theorem fetchOperand_ok {s : State} (b : Byte) (h : s.readable s.pc = true) :
    fetchOperand b s = .ok b ((s.counted [s.pc]).setPc (s.pc + 1)) := by
  unfold fetchOperand
  rw [Run.bind_ok (fetchByte_ok h)]
  rfl

theorem fetchWord_ok {s : State} (a : Addr) (h : s.readable s.pc = true) (h1 : s.readable (s.pc + 1) = true) :
    fetchWord a s = .ok a ((s.counted [s.pc, s.pc + 1]).setPc (s.pc + 2)) := by
  unfold fetchWord
  rw [Run.bind_ok (fetchByte_ok h), Run.bind_ok (fetchByte_ok (by simpa using h1))]
  simp only [Run.pure_apply, State.setPc_pc, State.counted_setPc, State.counted_append]
  rw [BitVec.add_assoc]
  rfl

/-! ## The stack -/

/-- A push whose address resolves and has no sink (R182). -/
theorem push_ok {s : State} {ph : Phys} (v : Byte) (hs : s.sinkAt (stackAddr s.sp) = none)
    (hp : s.resolve (stackAddr s.sp) = some ph) : push v s = .ok () ((s.storeAt ph v).setSp (s.sp - 1)) := by
  unfold push
  rw [Run.get_bind, Run.bind_ok (memWrite_ok v hs hp)]
  rfl

/-- A pull whose address resolves (R183): SP rises before the load. -/
theorem pop_ok {s : State} (h : s.readable (stackAddr (s.sp + 1)) = true) :
    pop s = .ok (s.peek (stackAddr (s.sp + 1))) ((s.counted [stackAddr (s.sp + 1)]).setSp (s.sp + 1)) := by
  unfold pop
  rw [Run.modify_bind, Run.get_bind, memRead_ok (by simpa using h)]
  rfl

/-- Page 1 is one page: every stack address has high byte 1. -/
theorem hi8_stackAddr (sp : Byte) : hi8 (stackAddr sp) = 1 := by
  revert sp; decide

/-- A store through one stack address leaves every other one where it was. -/
theorem resolve_stack_storeAt {s : State} {sp v : Byte} {ph : Phys} (sp' : Byte)
    (hp : s.resolve (stackAddr sp) = some ph) :
    (s.storeAt ph v).resolve (stackAddr sp') = s.resolve (stackAddr sp') :=
  resolve_page1_write s.cfg.backend s.mem ph v _ _ (hi8_stackAddr sp) (hi8_stackAddr sp') hp

/-! ## The end of an instruction -/

theorem runInstr_ok {op : Byte} {body : Run Timing} {s s' : State} {t : Timing} (h : body s = .ok t s') :
    runInstr op body s = .next (s'.addCycles (instrCost s'.cfg op t)) := by
  simp [runInstr, h]

theorem runInstr_error {op : Byte} {body : Run Timing} {s s' : State} {e : FaultRecord} (h : body s = .error e s') :
    runInstr op body s = .next (takeFault e s') := by
  simp [runInstr, h]

theorem cmosOnly_cmos {op : Byte} {meaning : State → StepResult} {s : State} (h : s.cfg.model = .cmos65c02) :
    cmosOnly op meaning s = meaning s := by
  simp [cmosOnly, h]

theorem cmosOnly_nmos {op : Byte} {meaning : State → StepResult} {s : State} (h : s.cfg.model = .nmos6502) :
    cmosOnly op meaning s = .next (takeFault (.illegalOpcode op (s.pc - 1)) s) := by
  simp [cmosOnly, h]

/-! ## A relation every transaction respects -/

/-- The state a piece of an instruction ends in, whichever way it ends. -/
def Run.endState {α : Type} (x : Run α) (s : State) : State :=
  match x s with
  | .ok _ s' => s'
  | .error _ s' => s'

/-- A piece of an instruction moves every state along `R`. -/
def Run.Moves {α : Type} (R : State → State → Prop) (x : Run α) : Prop := ∀ s, R s (Run.endState x s)

theorem Run.Moves.pure {α : Type} {R : State → State → Prop} (hr : ∀ s, R s s) (v : α) :
    Run.Moves R (Pure.pure v : Run α) := fun s => hr s

theorem Run.Moves.get {R : State → State → Prop} (hr : ∀ s, R s s) : Run.Moves R (MonadState.get : Run State) :=
  fun s => hr s

theorem Run.Moves.throw {α : Type} {R : State → State → Prop} (hr : ∀ s, R s s) (e : FaultRecord) :
    Run.Moves R (MonadExcept.throw e : Run α) := fun s => hr s

theorem Run.Moves.modified {R : State → State → Prop} {g : State → State} (h : ∀ s, R s (g s)) :
    Run.Moves R (modify g : Run Unit) := fun s => h s

theorem Run.Moves.get_bind {β : Type} {R : State → State → Prop} {f : State → Run β}
    (h : ∀ s, R s (Run.endState (f s) s)) : Run.Moves R ((MonadState.get : Run State) >>= f) := fun s => h s

theorem Run.Moves.bind {α β : Type} {R : State → State → Prop} (ht : ∀ s t u, R s t → R t u → R s u) {x : Run α}
    {f : α → Run β} (hx : Run.Moves R x) (hf : ∀ v, Run.Moves R (f v)) : Run.Moves R (x >>= f) := by
  intro s
  have h := hx s
  unfold Run.endState at h ⊢
  cases hs : x s with
  | ok v s' => rw [hs] at h; rw [Run.bind_ok hs]; exact ht _ _ _ h (hf v s')
  | error e s' => rw [hs] at h; rw [Run.bind_error hs]; exact h

end Sys2Proof.Machine
end

