-- ==== Sys2Proof/Laws/Operands.lean ====
section
/-! SUPPORT. The resolver and the shapes of an instruction (Machine/Operands.lean): what each answers where every address
it loads resolves, the first fault where one does not, and that each moves a state along any relation its transactions
respect. -/

namespace Sys2Proof.Machine

/-! ## The resolver -/

/-- The resolver where everything it loads resolves. -/
theorem resolveEa_ok (m : MemMode) {s : State} (h : ∀ a ∈ s.modeReads m, s.readable a = true) :
    resolveEa m s = .ok (s.ea m) ((s.counted (s.modeReads m)).setPc (s.pc + BitVec.ofNat 16 (modeBytes m))) := by
  cases m with
  | zp z =>
    simp only [State.modeReads, List.mem_singleton, forall_eq] at h
    dsimp only [resolveEa]
    rw [Run.bind_ok (fetchOperand_ok z h)]; rfl
  | zpx z =>
    simp only [State.modeReads, List.mem_singleton, forall_eq] at h
    dsimp only [resolveEa]
    rw [Run.bind_ok (fetchOperand_ok z h)]; rfl
  | zpy z =>
    simp only [State.modeReads, List.mem_singleton, forall_eq] at h
    dsimp only [resolveEa]
    rw [Run.bind_ok (fetchOperand_ok z h)]; rfl
  | abs a =>
    simp only [State.modeReads, List.mem_cons, List.not_mem_nil, or_false, forall_eq_or_imp, forall_eq] at h
    dsimp only [resolveEa]
    rw [Run.bind_ok (fetchWord_ok a h.1 h.2)]; rfl
  | absx a =>
    simp only [State.modeReads, List.mem_cons, List.not_mem_nil, or_false, forall_eq_or_imp, forall_eq] at h
    dsimp only [resolveEa]
    rw [Run.bind_ok (fetchWord_ok a h.1 h.2)]; rfl
  | absy a =>
    simp only [State.modeReads, List.mem_cons, List.not_mem_nil, or_false, forall_eq_or_imp, forall_eq] at h
    dsimp only [resolveEa]
    rw [Run.bind_ok (fetchWord_ok a h.1 h.2)]; rfl
  | indx z =>
    simp only [State.modeReads, List.mem_cons, List.not_mem_nil, or_false, forall_eq_or_imp, forall_eq] at h
    dsimp only [resolveEa]
    rw [Run.bind_ok (fetchOperand_ok z h.1), Run.get_bind]
    rw [Run.bind_ok (memRead_ok (by simpa using h.2.1)), Run.bind_ok (memRead_ok (by simpa using h.2.2))]
    simp only [Run.pure_apply, State.counted_setPc, State.counted_append]
    rfl
  | indy z =>
    simp only [State.modeReads, List.mem_cons, List.not_mem_nil, or_false, forall_eq_or_imp, forall_eq] at h
    dsimp only [resolveEa]
    rw [Run.bind_ok (fetchOperand_ok z h.1)]
    rw [Run.bind_ok (memRead_ok (by simpa using h.2.1)), Run.bind_ok (memRead_ok (by simpa using h.2.2))]
    simp only [Run.get_bind, Run.pure_apply, State.counted_setPc, State.counted_append]
    rfl
  | zpi z =>
    simp only [State.modeReads, List.mem_cons, List.not_mem_nil, or_false, forall_eq_or_imp, forall_eq] at h
    dsimp only [resolveEa]
    rw [Run.bind_ok (fetchOperand_ok z h.1)]
    rw [Run.bind_ok (memRead_ok (by simpa using h.2.1)), Run.bind_ok (memRead_ok (by simpa using h.2.2))]
    simp only [Run.pure_apply, State.counted_setPc, State.counted_append]
    rfl

/-- The resolver followed by the data load. -/
theorem resolveEa_read_ok (m : MemMode) {α : Type} (f : Ea → Byte → Run α) {s : State}
    (h : ∀ a ∈ s.dataReads (.mem m), s.readable a = true) :
    (resolveEa m >>= fun e => memRead e.addr >>= fun v => f e v) s =
      f (s.ea m) (s.peek (s.ea m).addr)
        ((s.counted (s.dataReads (.mem m))).setPc (s.pc + BitVec.ofNat 16 (modeBytes m))) := by
  simp only [State.dataReads, List.mem_append, List.mem_singleton] at h
  rw [Run.bind_ok (resolveEa_ok m fun a ha => h a (.inl ha))]
  rw [Run.bind_ok (memRead_ok (by simpa using h _ (.inr rfl)))]
  simp only [State.counted_setPc, State.counted_append, State.dataReads]
  rfl

/-! ## PC past an instruction -/

/-- An instruction with no operand byte leaves PC where the opcode fetch left it. -/
theorem State.past_no_operand {i : Instr} (h : i.operand.bytes.length = 0) (s : State) (addrs : List Addr) (t : Timing) :
    s.past i addrs t = (s.counted addrs).addCycles (instrCost s.cfg i.opcode t) := by
  unfold State.past State.nextPc State.addCycles
  rw [h]
  simp

/-! ## Shapes -/

theorem implied_next (op : Byte) (f : State → State) (s : State) :
    implied op f s = .next ((f s).addCycles (instrCost (f s).cfg op {})) := rfl

theorem readImm_next {op : Byte} (v : Byte) (f : State → Byte → State) {s : State} (h : s.readable s.pc = true) :
    readImm op v f s =
      .next ((f ((s.counted [s.pc]).setPc (s.pc + 1)) v).addCycles
        (instrCost (f ((s.counted [s.pc]).setPc (s.pc + 1)) v).cfg op {})) := by
  unfold readImm
  rw [runInstr_ok (t := {}) (s' := f ((s.counted [s.pc]).setPc (s.pc + 1)) v)]
  rw [Run.bind_ok (fetchOperand_ok v h)]
  rfl

theorem readMem_next {op : Byte} (m : MemMode) (f : State → Byte → State) {s t : State}
    (h : ∀ a ∈ s.dataReads (.mem m), s.readable a = true)
    (ht : f ((s.counted (s.dataReads (.mem m))).setPc (s.pc + BitVec.ofNat 16 (modeBytes m)))
      (s.peek (s.ea m).addr) = t) :
    readMem op m f s = .next (t.addCycles (instrCost t.cfg op { cross := (s.ea m).cross })) := by
  unfold readMem
  rw [runInstr_ok (t := { cross := (s.ea m).cross }) (s' := t)]
  rw [resolveEa_read_ok m _ h, Run.modify_bind, ht]
  rfl

theorem writeMem_next {op : Byte} (m : MemMode) (v : State → Byte) {s : State} {ph : Phys}
    (h : ∀ a ∈ s.modeReads m, s.readable a = true) (hs : s.sinkAt (s.ea m).addr = none)
    (hp : s.resolve (s.ea m).addr = some ph) :
    writeMem op m v s = .next
      ((((s.counted (s.modeReads m)).setPc (s.pc + BitVec.ofNat 16 (modeBytes m))).storeAt ph
        (v ((s.counted (s.modeReads m)).setPc (s.pc + BitVec.ofNat 16 (modeBytes m))))).addCycles
        (instrCost s.cfg op { cross := (s.ea m).cross })) := by
  unfold writeMem
  refine runInstr_ok (t := { cross := (s.ea m).cross }) ?_
  rw [Run.bind_ok (resolveEa_ok m h), Run.get_bind]
  rw [Run.bind_ok (memWrite_ok (s := (s.counted (s.modeReads m)).setPc _) (ph := ph) _ hs hp)]
  rfl

theorem rmwMem_next {op : Byte} (m : MemMode) (f : State → Byte → Byte × Byte) {s t : State} {ph : Phys}
    (h : ∀ a ∈ s.modeReads m, s.readable a = true) (hs : s.sinkAt (s.ea m).addr = none)
    (hp : s.resolve (s.ea m).addr = some ph)
    (ht : (s.counted (s.dataReads (.mem m))).setPc (s.pc + BitVec.ofNat 16 (modeBytes m)) = t) :
    rmwMem op m f s = .next
      (((t.storeAt ph (f t (s.peek (s.ea m).addr)).1).setP (f t (s.peek (s.ea m).addr)).2).addCycles
        (instrCost s.cfg op { cross := (s.ea m).cross })) := by
  subst ht
  unfold rmwMem
  refine runInstr_ok (t := { cross := (s.ea m).cross }) ?_
  rw [resolveEa_read_ok m]
  · rw [Run.get_bind]
    rw [Run.bind_ok (memWrite_ok (s := (s.counted (s.dataReads (.mem m))).setPc _) (ph := ph) _ hs hp)]
    rfl
  · intro a ha
    simp only [State.dataReads, List.mem_append, List.mem_singleton] at ha
    rcases ha with ha | rfl
    · exact h a ha
    · exact (s.readable_iff _).2 ⟨ph, hp⟩

theorem accumulator_next (op : Byte) (f : State → Byte → Byte × Byte) (s : State) :
    accumulator op f s = .next (((s.setA (f s s.a).1).setP (f s s.a).2).addCycles (instrCost s.cfg op {})) := rfl

theorem relBranch_not_taken (r : Byte) (s : State) : relBranch false r s = .ok {} (s.setPc (s.pc + 1)) := rfl

theorem relBranch_taken (r : Byte) {s : State} (h : s.readable s.pc = true) :
    relBranch true r s = .ok { taken := true, cross := pageCross (s.pc + 1) (s.pc + 1 + relOffset r) }
      ((s.counted [s.pc]).setPc (s.pc + 1 + relOffset r)) := by
  unfold relBranch
  simp only [if_true]
  rw [Run.bind_ok (fetchOperand_ok r h)]
  rfl

theorem pushByte_next {op : Byte} (v : State → Byte) {s : State} {ph : Phys} (hs : s.sinkAt (stackAddr s.sp) = none)
    (hp : s.resolve (stackAddr s.sp) = some ph) :
    pushByte op v s = .next (((s.storeAt ph (v s)).setSp (s.sp - 1)).addCycles (instrCost s.cfg op {})) := by
  unfold pushByte
  refine runInstr_ok (t := {}) ?_
  rw [Run.get_bind, Run.bind_ok (push_ok _ hs hp)]
  rfl

theorem pullByte_next {op : Byte} (f : State → Byte → State) {s t : State}
    (h : s.readable (stackAddr (s.sp + 1)) = true)
    (ht : f ((s.counted [stackAddr (s.sp + 1)]).setSp (s.sp + 1)) (s.peek (stackAddr (s.sp + 1))) = t) :
    pullByte op f s = .next (t.addCycles (instrCost t.cfg op {})) := by
  unfold pullByte
  refine runInstr_ok (t := {}) ?_
  rw [Run.bind_ok (pop_ok h), Run.modify_bind, ht]
  rfl

/-! ## Relations -/

/-- A relation that every transaction and every register write of an instruction respects: what one has to show of it to
have it of the whole instruction set (Laws/Exec.lean). -/
structure Respected (R : State → State → Prop) : Prop where
  refl  : ∀ s, R s s
  trans : ∀ s t u, R s t → R t u → R s u
  regs  : ∀ (s : State) (a x y sp p : Byte) (pc : Addr) (cycles : Count),
    R s { s with a := a, x := x, y := y, sp := sp, p := p, pc := pc, cycles := cycles }
  draw  : ∀ (s : State) (n : Nat) (calls : List SinkCall), R s { s with draws := n, sinkCalls := calls }
  count : ∀ (s : State) (a : Addr) (ph : Phys), s.resolve a = some ph → R s (s.count ph)
  store : ∀ (s : State) (a : Addr) (ph : Phys) (v : Byte), s.resolve a = some ph → R s (s.storeAt ph v)

variable {R : State → State → Prop}

theorem Respected.bind {α β : Type} (h : Respected R) {x : Run α} {f : α → Run β} (hx : Run.Moves R x)
    (hf : ∀ v, Run.Moves R (f v)) : Run.Moves R (x >>= f) := Run.Moves.bind h.trans hx hf

theorem Respected.ret {α : Type} (h : Respected R) (v : α) : Run.Moves R (pure v : Run α) := Run.Moves.pure h.refl v

theorem Respected.get (h : Respected R) : Run.Moves R (get : Run State) := Run.Moves.get h.refl

theorem Respected.setPc (h : Respected R) (s : State) (v : Addr) : R s (s.setPc v) :=
  h.regs s s.a s.x s.y s.sp s.p v s.cycles

theorem Respected.setSp (h : Respected R) (s : State) (v : Byte) : R s (s.setSp v) :=
  h.regs s s.a s.x s.y v s.p s.pc s.cycles

theorem Respected.setP (h : Respected R) (s : State) (v : Byte) : R s (s.setP v) :=
  h.regs s s.a s.x s.y s.sp v s.pc s.cycles

theorem Respected.loadA (h : Respected R) (s : State) (v : Byte) : R s (s.loadA v) :=
  h.regs s v s.x s.y s.sp (setNZ s.p v) s.pc s.cycles

theorem Respected.loadX (h : Respected R) (s : State) (v : Byte) : R s (s.loadX v) :=
  h.regs s s.a v s.y s.sp (setNZ s.p v) s.pc s.cycles

theorem Respected.loadY (h : Respected R) (s : State) (v : Byte) : R s (s.loadY v) :=
  h.regs s s.a s.x v s.sp (setNZ s.p v) s.pc s.cycles

theorem Respected.memRead (h : Respected R) (a : Addr) : Run.Moves R (memRead a) := by
  intro s
  unfold Run.endState Machine.memRead
  cases hp : s.resolve a with
  | none => exact h.refl s
  | some ph => exact h.count s a ph hp

theorem Respected.sinkAccess (h : Respected R) (s : State) (acc : SinkAccess) : R s (s.sinkAccess acc) := by
  cases acc with
  | load a =>
    dsimp only [State.sinkAccess]
    cases hp : s.resolve a with
    | none => exact h.refl s
    | some ph => exact h.count s a ph hp
  | store a v =>
    dsimp only [State.sinkAccess]
    cases hp : s.resolve a with
    | none => exact h.refl s
    | some ph => exact h.store s a ph v hp
  | handOn k a v => exact h.draw s s.draws (s.sinkCalls ++ [.write k a v])

theorem Respected.sinkAccesses (h : Respected R) (l : List SinkAccess) (s : State) :
    R s (l.foldl State.sinkAccess s) := by
  induction l generalizing s with
  | nil => exact h.refl s
  | cons acc rest ih => exact h.trans _ _ _ (h.sinkAccess s acc) (ih _)

theorem Respected.memWrite (h : Respected R) (a : Addr) (v : Byte) : Run.Moves R (memWrite a v) := by
  intro s
  unfold Run.endState Machine.memWrite
  cases hs : s.sinkAt a with
  | none =>
    unfold backendStore
    cases hp : s.resolve a with
    | none => exact h.refl s
    | some ph => exact h.store s a ph v hp
  | some k =>
    have key := h.trans _ _ _ (h.draw s (s.draws + 1) (s.sinkCalls ++ [.write k a v]))
      (h.sinkAccesses (Config.sinkEffect s.draws).accesses _)
    dsimp only
    unfold sinkWrite
    by_cases hf : (Config.sinkEffect s.draws).fails = true
    · simp only [hf, if_true]; exact key
    · simp only [hf]; exact key

theorem Respected.fetchByte (h : Respected R) : Run.Moves R fetchByte := by
  unfold Machine.fetchByte
  exact h.bind h.get fun s => h.bind (h.memRead _) fun _ =>
    h.bind (Run.Moves.modified fun t => h.setPc t _) fun _ => h.ret _

theorem Respected.fetchOperand (h : Respected R) (b : Byte) : Run.Moves R (fetchOperand b) :=
  h.bind h.fetchByte fun _ => h.ret _

theorem Respected.fetchWord (h : Respected R) (a : Addr) : Run.Moves R (fetchWord a) :=
  h.bind h.fetchByte fun _ => h.bind h.fetchByte fun _ => h.ret _

theorem Respected.push (h : Respected R) (v : Byte) : Run.Moves R (push v) :=
  h.bind h.get fun _ => h.bind (h.memWrite _ _) fun _ => Run.Moves.modified fun t => h.setSp t _

theorem Respected.pop (h : Respected R) : Run.Moves R pop :=
  h.bind (Run.Moves.modified fun t => h.setSp t _) fun _ => h.bind h.get fun _ => h.memRead _

theorem Respected.resolveEa (h : Respected R) (m : MemMode) : Run.Moves R (resolveEa m) := by
  unfold Machine.resolveEa
  cases m with
  | zp z => exact h.bind (h.fetchOperand _) fun _ => h.ret _
  | zpx z => exact h.bind (h.fetchOperand _) fun _ => h.bind h.get fun _ => h.ret _
  | zpy z => exact h.bind (h.fetchOperand _) fun _ => h.bind h.get fun _ => h.ret _
  | abs a => exact h.bind (h.fetchWord _) fun _ => h.ret _
  | absx a => exact h.bind (h.fetchWord _) fun _ => h.bind h.get fun _ => h.ret _
  | absy a => exact h.bind (h.fetchWord _) fun _ => h.bind h.get fun _ => h.ret _
  | indx z =>
    exact h.bind (h.fetchOperand _) fun _ => h.bind h.get fun _ => h.bind (h.memRead _) fun _ =>
      h.bind (h.memRead _) fun _ => h.ret _
  | indy z =>
    exact h.bind (h.fetchOperand _) fun _ => h.bind (h.memRead _) fun _ => h.bind (h.memRead _) fun _ =>
      h.bind h.get fun _ => h.ret _
  | zpi z =>
    exact h.bind (h.fetchOperand _) fun _ => h.bind (h.memRead _) fun _ => h.bind (h.memRead _) fun _ => h.ret _

theorem Respected.relBranch (h : Respected R) (c : Bool) (r : Byte) : Run.Moves R (relBranch c r) := by
  unfold Machine.relBranch
  cases c with
  | false => exact h.bind (Run.Moves.modified fun t => h.setPc t _) fun _ => h.ret _
  | true =>
    exact h.bind (h.fetchOperand _) fun _ => h.bind h.get fun _ =>
      h.bind (Run.Moves.modified fun t => h.setPc t _) fun _ => h.ret _

theorem Respected.indirectTarget (h : Respected R) (a : Addr) : Run.Moves R (indirectTarget a) :=
  h.bind (h.fetchWord _) fun _ => h.bind h.get fun _ => h.bind (h.memRead _) fun _ =>
    h.bind (h.memRead _) fun _ => h.ret _

theorem Respected.indexedIndirectTarget (h : Respected R) (a : Addr) : Run.Moves R (indexedIndirectTarget a) :=
  h.bind (h.fetchWord _) fun _ => h.bind h.get fun _ => h.bind (h.memRead _) fun _ =>
    h.bind (h.memRead _) fun _ => h.ret _

/-! ## Where an instruction ends -/

/-- A shape answers a next state, reached along `R` and then either charged its cost or faulted. -/
def Ends (R : State → State → Prop) (s : State) (r : StepResult) : Prop :=
  ∃ t, R s t ∧ ((∃ n, r = .next (t.addCycles n)) ∨ ∃ f, r = .next (takeFault f t))

theorem Respected.runInstr {op : Byte} {body : Run Timing} (hb : Run.Moves R body) (s : State) :
    Ends R s (runInstr op body s) := by
  have h := hb s
  unfold Run.endState at h
  cases hs : body s with
  | ok t s' => rw [hs] at h; exact ⟨s', h, .inl ⟨_, runInstr_ok hs⟩⟩
  | error e s' => rw [hs] at h; exact ⟨s', h, .inr ⟨e, runInstr_error hs⟩⟩

theorem Respected.cmosOnly (h : Respected R) {op : Byte} {meaning : State → StepResult} {s : State}
    (hm : Ends R s (meaning s)) : Ends R s (cmosOnly op meaning s) := by
  cases hc : s.cfg.model with
  | cmos65c02 => rw [cmosOnly_cmos hc]; exact hm
  | nmos6502 => exact ⟨s, h.refl s, .inr ⟨_, cmosOnly_nmos hc⟩⟩

theorem Respected.implied (h : Respected R) {op : Byte} {f : State → State} (hf : ∀ s, R s (f s)) (s : State) :
    Ends R s (implied op f s) :=
  Respected.runInstr (h.bind (Run.Moves.modified hf) fun _ => h.ret _) s

theorem Respected.readImm (h : Respected R) {op v : Byte} {f : State → Byte → State} (hf : ∀ s v, R s (f s v))
    (s : State) : Ends R s (readImm op v f s) :=
  Respected.runInstr (h.bind (h.fetchOperand _) fun _ => h.bind (Run.Moves.modified fun t => hf t _) fun _ =>
    h.ret _) s

theorem Respected.readMem (h : Respected R) {op : Byte} {m : MemMode} {f : State → Byte → State}
    (hf : ∀ s v, R s (f s v)) (s : State) : Ends R s (readMem op m f s) :=
  Respected.runInstr (h.bind (h.resolveEa _) fun _ => h.bind (h.memRead _) fun _ =>
    h.bind (Run.Moves.modified fun t => hf t _) fun _ => h.ret _) s

theorem Respected.arithImm (h : Respected R) {op v : Byte} {f : Byte → Run Unit} (hf : ∀ v, Run.Moves R (f v))
    (s : State) : Ends R s (arithImm op v f s) :=
  Respected.runInstr (h.bind h.get fun _ => h.bind (h.fetchOperand _) fun _ => h.bind (hf _) fun _ => h.ret _) s

theorem Respected.arithMem (h : Respected R) {op : Byte} {m : MemMode} {f : Byte → Run Unit}
    (hf : ∀ v, Run.Moves R (f v)) (s : State) : Ends R s (arithMem op m f s) :=
  Respected.runInstr (h.bind h.get fun _ => h.bind (h.resolveEa _) fun _ => h.bind (h.memRead _) fun _ =>
    h.bind (hf _) fun _ => h.ret _) s

theorem Respected.writeMem (h : Respected R) {op : Byte} {m : MemMode} {v : State → Byte} (s : State) :
    Ends R s (writeMem op m v s) :=
  Respected.runInstr (h.bind (h.resolveEa _) fun _ => h.bind h.get fun _ => h.bind (h.memWrite _ _) fun _ =>
    h.ret _) s

theorem Respected.rmwMem (h : Respected R) {op : Byte} {m : MemMode} {f : State → Byte → Byte × Byte} (s : State) :
    Ends R s (rmwMem op m f s) :=
  Respected.runInstr (h.bind (h.resolveEa _) fun _ => h.bind (h.memRead _) fun _ => h.bind h.get fun _ =>
    h.bind (h.memWrite _ _) fun _ => h.bind (Run.Moves.modified fun t => h.setP t _) fun _ => h.ret _) s

theorem Respected.accumulator (h : Respected R) {op : Byte} {f : State → Byte → Byte × Byte} (s : State) :
    Ends R s (accumulator op f s) :=
  h.implied (fun s => h.regs s (f s s.a).1 s.x s.y s.sp (f s s.a).2 s.pc s.cycles) s

theorem Respected.branch (h : Respected R) {op : Byte} {c : Byte → Bool} {r : Byte} (s : State) :
    Ends R s (branch op c r s) :=
  Respected.runInstr (h.bind h.get fun _ => h.relBranch _ _) s

theorem Respected.bitBranch (h : Respected R) {op : Byte} {b : Fin 8} {w : Bool} {z r : Byte} (s : State) :
    Ends R s (bitBranch op b w z r s) :=
  Respected.runInstr (h.bind (h.fetchOperand _) fun _ => h.bind (h.memRead _) fun _ => h.relBranch _ _) s

theorem Respected.pushByte (h : Respected R) {op : Byte} {v : State → Byte} (s : State) :
    Ends R s (pushByte op v s) :=
  Respected.runInstr (h.bind h.get fun _ => h.bind (h.push _) fun _ => h.ret _) s

theorem Respected.pullByte (h : Respected R) {op : Byte} {f : State → Byte → State} (hf : ∀ s v, R s (f s v))
    (s : State) : Ends R s (pullByte op f s) :=
  Respected.runInstr (h.bind h.pop fun _ => h.bind (Run.Moves.modified fun t => hf t _) fun _ => h.ret _) s

end Sys2Proof.Machine
end

