-- ==== Sys2Proof/Laws/Exec.lean ====
section
/-! SUPPORT. What one instruction, and one step of a run, can do at most: for a relation that every transaction and register
write respects, every instruction answers a next state reached along it. An invariant of the run loop is one application of
it. -/

namespace Sys2Proof.Machine

variable {R : State → State → Prop}

theorem Respected.decimalResult (h : Respected R) (m : Byte) (r : Option (Byte × Bool)) :
    Run.Moves R (decimalResult m r) := by
  unfold Machine.decimalResult
  refine Run.Moves.get_bind fun s => ?_
  cases r with
  | none => exact h.refl s
  | some vc =>
    exact h.trans _ _ _ (h.regs s vc.1 s.x s.y s.sp _ s.pc s.cycles) (h.draw _ (s.draws + 3) _)

theorem Respected.binaryResult (h : Respected R) (r : Byte × Bool × Bool) : Run.Moves R (binaryResult r) :=
  Run.Moves.modified fun s => h.regs s r.1 s.x s.y s.sp _ s.pc s.cycles

theorem Respected.adc (h : Respected R) (m : Byte) : Run.Moves R (adc m) := by
  unfold Machine.adc
  refine h.bind h.get fun s => ?_
  split
  · exact h.decimalResult _ _
  · exact h.binaryResult _

theorem Respected.sbc (h : Respected R) (m : Byte) : Run.Moves R (sbc m) := by
  unfold Machine.sbc
  refine h.bind h.get fun s => ?_
  split
  · exact h.decimalResult _ _
  · exact h.binaryResult _

/-- Every instruction answers a next state, reached along a respected relation. -/
theorem Respected.exec (h : Respected R) (hh : ∀ s, R s s.haltRun) (i : Instr) (s : State) : Ends R s (Machine.exec i s) := by
  cases i with
  | ldaImm _ => exact h.readImm h.loadA s
  | ldaZp _ => exact h.readMem h.loadA s
  | ldaZpx _ => exact h.readMem h.loadA s
  | ldaAbs _ => exact h.readMem h.loadA s
  | ldaAbsx _ => exact h.readMem h.loadA s
  | ldaAbsy _ => exact h.readMem h.loadA s
  | ldaIndx _ => exact h.readMem h.loadA s
  | ldaIndy _ => exact h.readMem h.loadA s
  | ldaZpi _ => exact h.cmosOnly (h.readMem h.loadA s)
  | ldxImm _ => exact h.readImm h.loadX s
  | ldxZp _ => exact h.readMem h.loadX s
  | ldxZpy _ => exact h.readMem h.loadX s
  | ldxAbs _ => exact h.readMem h.loadX s
  | ldxAbsy _ => exact h.readMem h.loadX s
  | ldyImm _ => exact h.readImm h.loadY s
  | ldyZp _ => exact h.readMem h.loadY s
  | ldyZpx _ => exact h.readMem h.loadY s
  | ldyAbs _ => exact h.readMem h.loadY s
  | ldyAbsx _ => exact h.readMem h.loadY s
  | staZp _ => exact h.writeMem s
  | staZpx _ => exact h.writeMem s
  | staAbs _ => exact h.writeMem s
  | staAbsx _ => exact h.writeMem s
  | staAbsy _ => exact h.writeMem s
  | staIndx _ => exact h.writeMem s
  | staIndy _ => exact h.writeMem s
  | staZpi _ => exact h.cmosOnly (h.writeMem s)
  | stxZp _ => exact h.writeMem s
  | stxZpy _ => exact h.writeMem s
  | stxAbs _ => exact h.writeMem s
  | styZp _ => exact h.writeMem s
  | styZpx _ => exact h.writeMem s
  | styAbs _ => exact h.writeMem s
  | stzZp _ => exact h.cmosOnly (h.writeMem s)
  | stzZpx _ => exact h.cmosOnly (h.writeMem s)
  | stzAbs _ => exact h.cmosOnly (h.writeMem s)
  | stzAbsx _ => exact h.cmosOnly (h.writeMem s)
  | tax => exact h.implied (fun t => h.loadX t _) s
  | tay => exact h.implied (fun t => h.loadY t _) s
  | txa => exact h.implied (fun t => h.loadA t _) s
  | tya => exact h.implied (fun t => h.loadA t _) s
  | tsx => exact h.implied (fun t => h.loadX t _) s
  | txs => exact h.implied (fun t => h.setSp t _) s
  | adcImm _ => exact h.arithImm h.adc s
  | adcZp _ => exact h.arithMem h.adc s
  | adcZpx _ => exact h.arithMem h.adc s
  | adcAbs _ => exact h.arithMem h.adc s
  | adcAbsx _ => exact h.arithMem h.adc s
  | adcAbsy _ => exact h.arithMem h.adc s
  | adcIndx _ => exact h.arithMem h.adc s
  | adcIndy _ => exact h.arithMem h.adc s
  | adcZpi _ => exact h.cmosOnly (h.arithMem h.adc s)
  | sbcImm _ => exact h.arithImm h.sbc s
  | sbcZp _ => exact h.arithMem h.sbc s
  | sbcZpx _ => exact h.arithMem h.sbc s
  | sbcAbs _ => exact h.arithMem h.sbc s
  | sbcAbsx _ => exact h.arithMem h.sbc s
  | sbcAbsy _ => exact h.arithMem h.sbc s
  | sbcIndx _ => exact h.arithMem h.sbc s
  | sbcIndy _ => exact h.arithMem h.sbc s
  | sbcZpi _ => exact h.cmosOnly (h.arithMem h.sbc s)
  | cmpImm _ => exact h.readImm (fun t _ => h.setP t _) s
  | cmpZp _ => exact h.readMem (fun t _ => h.setP t _) s
  | cmpZpx _ => exact h.readMem (fun t _ => h.setP t _) s
  | cmpAbs _ => exact h.readMem (fun t _ => h.setP t _) s
  | cmpAbsx _ => exact h.readMem (fun t _ => h.setP t _) s
  | cmpAbsy _ => exact h.readMem (fun t _ => h.setP t _) s
  | cmpIndx _ => exact h.readMem (fun t _ => h.setP t _) s
  | cmpIndy _ => exact h.readMem (fun t _ => h.setP t _) s
  | cmpZpi _ => exact h.cmosOnly (h.readMem (fun t _ => h.setP t _) s)
  | cpxImm _ => exact h.readImm (fun t _ => h.setP t _) s
  | cpxZp _ => exact h.readMem (fun t _ => h.setP t _) s
  | cpxAbs _ => exact h.readMem (fun t _ => h.setP t _) s
  | cpyImm _ => exact h.readImm (fun t _ => h.setP t _) s
  | cpyZp _ => exact h.readMem (fun t _ => h.setP t _) s
  | cpyAbs _ => exact h.readMem (fun t _ => h.setP t _) s
  | incAcc => exact (h.cmosOnly (h.accumulator s) : Ends R s (Machine.cmosOnly 0x1A (Machine.accumulator 0x1A (fun s => incValue s.p)) s))
  | incZp _ => exact h.rmwMem s
  | incZpx _ => exact h.rmwMem s
  | incAbs _ => exact h.rmwMem s
  | incAbsx _ => exact h.rmwMem s
  | decAcc => exact (h.cmosOnly (h.accumulator s) : Ends R s (Machine.cmosOnly 0x3A (Machine.accumulator 0x3A (fun s => decValue s.p)) s))
  | decZp _ => exact h.rmwMem s
  | decZpx _ => exact h.rmwMem s
  | decAbs _ => exact h.rmwMem s
  | decAbsx _ => exact h.rmwMem s
  | inx => exact h.implied (fun t => h.loadX t _) s
  | iny => exact h.implied (fun t => h.loadY t _) s
  | dex => exact h.implied (fun t => h.loadX t _) s
  | dey => exact h.implied (fun t => h.loadY t _) s
  | andImm _ => exact h.readImm (fun t _ => h.loadA t _) s
  | andZp _ => exact h.readMem (fun t _ => h.loadA t _) s
  | andZpx _ => exact h.readMem (fun t _ => h.loadA t _) s
  | andAbs _ => exact h.readMem (fun t _ => h.loadA t _) s
  | andAbsx _ => exact h.readMem (fun t _ => h.loadA t _) s
  | andAbsy _ => exact h.readMem (fun t _ => h.loadA t _) s
  | andIndx _ => exact h.readMem (fun t _ => h.loadA t _) s
  | andIndy _ => exact h.readMem (fun t _ => h.loadA t _) s
  | andZpi _ => exact h.cmosOnly (h.readMem (fun t _ => h.loadA t _) s)
  | oraImm _ => exact h.readImm (fun t _ => h.loadA t _) s
  | oraZp _ => exact h.readMem (fun t _ => h.loadA t _) s
  | oraZpx _ => exact h.readMem (fun t _ => h.loadA t _) s
  | oraAbs _ => exact h.readMem (fun t _ => h.loadA t _) s
  | oraAbsx _ => exact h.readMem (fun t _ => h.loadA t _) s
  | oraAbsy _ => exact h.readMem (fun t _ => h.loadA t _) s
  | oraIndx _ => exact h.readMem (fun t _ => h.loadA t _) s
  | oraIndy _ => exact h.readMem (fun t _ => h.loadA t _) s
  | oraZpi _ => exact h.cmosOnly (h.readMem (fun t _ => h.loadA t _) s)
  | eorImm _ => exact h.readImm (fun t _ => h.loadA t _) s
  | eorZp _ => exact h.readMem (fun t _ => h.loadA t _) s
  | eorZpx _ => exact h.readMem (fun t _ => h.loadA t _) s
  | eorAbs _ => exact h.readMem (fun t _ => h.loadA t _) s
  | eorAbsx _ => exact h.readMem (fun t _ => h.loadA t _) s
  | eorAbsy _ => exact h.readMem (fun t _ => h.loadA t _) s
  | eorIndx _ => exact h.readMem (fun t _ => h.loadA t _) s
  | eorIndy _ => exact h.readMem (fun t _ => h.loadA t _) s
  | eorZpi _ => exact h.cmosOnly (h.readMem (fun t _ => h.loadA t _) s)
  | bitImm _ => exact h.cmosOnly (h.readImm (fun t _ => h.setP t _) s)
  | bitZp _ => exact h.readMem (fun t _ => h.setP t _) s
  | bitZpx _ => exact h.cmosOnly (h.readMem (fun t _ => h.setP t _) s)
  | bitAbs _ => exact h.readMem (fun t _ => h.setP t _) s
  | bitAbsx _ => exact h.cmosOnly (h.readMem (fun t _ => h.setP t _) s)
  | aslAcc => exact (h.accumulator s : Ends R s (Machine.accumulator 0x0A (fun s => aslValue s.p) s))
  | aslZp _ => exact h.rmwMem s
  | aslZpx _ => exact h.rmwMem s
  | aslAbs _ => exact h.rmwMem s
  | aslAbsx _ => exact h.rmwMem s
  | lsrAcc => exact (h.accumulator s : Ends R s (Machine.accumulator 0x4A (fun s => lsrValue s.p) s))
  | lsrZp _ => exact h.rmwMem s
  | lsrZpx _ => exact h.rmwMem s
  | lsrAbs _ => exact h.rmwMem s
  | lsrAbsx _ => exact h.rmwMem s
  | rolAcc => exact (h.accumulator s : Ends R s (Machine.accumulator 0x2A (fun s => rolValue s.p) s))
  | rolZp _ => exact h.rmwMem s
  | rolZpx _ => exact h.rmwMem s
  | rolAbs _ => exact h.rmwMem s
  | rolAbsx _ => exact h.rmwMem s
  | rorAcc => exact (h.accumulator s : Ends R s (Machine.accumulator 0x6A (fun s => rorValue s.p) s))
  | rorZp _ => exact h.rmwMem s
  | rorZpx _ => exact h.rmwMem s
  | rorAbs _ => exact h.rmwMem s
  | rorAbsx _ => exact h.rmwMem s
  | trbZp _ => exact h.cmosOnly (h.rmwMem s)
  | trbAbs _ => exact h.cmosOnly (h.rmwMem s)
  | tsbZp _ => exact h.cmosOnly (h.rmwMem s)
  | tsbAbs _ => exact h.cmosOnly (h.rmwMem s)
  | rmb0 _ => exact h.cmosOnly (h.rmwMem s)
  | rmb1 _ => exact h.cmosOnly (h.rmwMem s)
  | rmb2 _ => exact h.cmosOnly (h.rmwMem s)
  | rmb3 _ => exact h.cmosOnly (h.rmwMem s)
  | rmb4 _ => exact h.cmosOnly (h.rmwMem s)
  | rmb5 _ => exact h.cmosOnly (h.rmwMem s)
  | rmb6 _ => exact h.cmosOnly (h.rmwMem s)
  | rmb7 _ => exact h.cmosOnly (h.rmwMem s)
  | smb0 _ => exact h.cmosOnly (h.rmwMem s)
  | smb1 _ => exact h.cmosOnly (h.rmwMem s)
  | smb2 _ => exact h.cmosOnly (h.rmwMem s)
  | smb3 _ => exact h.cmosOnly (h.rmwMem s)
  | smb4 _ => exact h.cmosOnly (h.rmwMem s)
  | smb5 _ => exact h.cmosOnly (h.rmwMem s)
  | smb6 _ => exact h.cmosOnly (h.rmwMem s)
  | smb7 _ => exact h.cmosOnly (h.rmwMem s)
  | bpl r => exact (h.branch s : Ends R s (Machine.branch 0x10 (fun p => !flag p .n) r s))
  | bmi r => exact (h.branch s : Ends R s (Machine.branch 0x30 (fun p => flag p .n) r s))
  | bvc r => exact (h.branch s : Ends R s (Machine.branch 0x50 (fun p => !flag p .v) r s))
  | bvs r => exact (h.branch s : Ends R s (Machine.branch 0x70 (fun p => flag p .v) r s))
  | bcc r => exact (h.branch s : Ends R s (Machine.branch 0x90 (fun p => !flag p .c) r s))
  | bcs r => exact (h.branch s : Ends R s (Machine.branch 0xB0 (fun p => flag p .c) r s))
  | bne r => exact (h.branch s : Ends R s (Machine.branch 0xD0 (fun p => !flag p .z) r s))
  | beq r => exact (h.branch s : Ends R s (Machine.branch 0xF0 (fun p => flag p .z) r s))
  | bra r => exact (h.cmosOnly (h.branch s) : Ends R s (Machine.cmosOnly 0x80 (Machine.branch 0x80 (fun _ => true) r) s))
  | bbr0 _ _ => exact h.cmosOnly (h.bitBranch s)
  | bbr1 _ _ => exact h.cmosOnly (h.bitBranch s)
  | bbr2 _ _ => exact h.cmosOnly (h.bitBranch s)
  | bbr3 _ _ => exact h.cmosOnly (h.bitBranch s)
  | bbr4 _ _ => exact h.cmosOnly (h.bitBranch s)
  | bbr5 _ _ => exact h.cmosOnly (h.bitBranch s)
  | bbr6 _ _ => exact h.cmosOnly (h.bitBranch s)
  | bbr7 _ _ => exact h.cmosOnly (h.bitBranch s)
  | bbs0 _ _ => exact h.cmosOnly (h.bitBranch s)
  | bbs1 _ _ => exact h.cmosOnly (h.bitBranch s)
  | bbs2 _ _ => exact h.cmosOnly (h.bitBranch s)
  | bbs3 _ _ => exact h.cmosOnly (h.bitBranch s)
  | bbs4 _ _ => exact h.cmosOnly (h.bitBranch s)
  | bbs5 _ _ => exact h.cmosOnly (h.bitBranch s)
  | bbs6 _ _ => exact h.cmosOnly (h.bitBranch s)
  | bbs7 _ _ => exact h.cmosOnly (h.bitBranch s)
  | jmpAbs _ => exact Respected.runInstr (h.bind (h.fetchWord _) fun _ => h.bind (Run.Moves.modified fun t => h.setPc t _) fun _ => h.ret _) s
  | jmpInd _ => exact Respected.runInstr (h.bind (h.indirectTarget _) fun _ => h.bind (Run.Moves.modified fun t => h.setPc t _) fun _ => h.ret _) s
  | jmpAix _ => exact h.cmosOnly (Respected.runInstr (h.bind (h.indexedIndirectTarget _) fun _ => h.bind (Run.Moves.modified fun t => h.setPc t _) fun _ => h.ret _) s)
  | jsr _ => exact Respected.runInstr (h.bind (h.fetchWord _) fun _ => h.bind h.get fun _ => h.bind (h.push _) fun _ => h.bind (h.push _) fun _ =>
      h.bind (Run.Moves.modified fun t => h.setPc t _) fun _ => h.ret _) s
  | rts => exact Respected.runInstr (h.bind h.pop fun _ => h.bind h.pop fun _ => h.bind (Run.Moves.modified fun t => h.setPc t _) fun _ => h.ret _) s
  | rti => exact Respected.runInstr (h.bind h.pop fun _ => h.bind (Run.Moves.modified fun t => h.setP t _) fun _ => h.bind h.pop fun _ =>
      h.bind h.pop fun _ => h.bind (Run.Moves.modified fun t => h.setPc t _) fun _ => h.ret _) s
  | brk => exact h.implied hh s
  | nop => exact h.implied h.refl s
  | pha => exact h.pushByte s
  | php => exact h.pushByte s
  | pla => exact h.pullByte h.loadA s
  | plp => exact h.pullByte h.setP s
  | phx => exact h.cmosOnly (h.pushByte s)
  | phy => exact h.cmosOnly (h.pushByte s)
  | plx => exact h.cmosOnly (h.pullByte h.loadX s)
  | ply => exact h.cmosOnly (h.pullByte h.loadY s)
  | clc => exact h.implied (fun t => h.setP t _) s
  | cld => exact h.implied (fun t => h.setP t _) s
  | cli => exact h.implied (fun t => h.setP t _) s
  | clv => exact h.implied (fun t => h.setP t _) s
  | sec => exact h.implied (fun t => h.setP t _) s
  | sed => exact h.implied (fun t => h.setP t _) s
  | sei => exact h.implied (fun t => h.setP t _) s

/-- The same for every instruction but BRK, of a relation that halting need not respect. -/
theorem Respected.exec_running (h : Respected R) {i : Instr} (hb : i ≠ .brk) (s : State) : Ends R s (Machine.exec i s) := by
  cases i with
  | ldaImm _ => exact h.readImm h.loadA s
  | ldaZp _ => exact h.readMem h.loadA s
  | ldaZpx _ => exact h.readMem h.loadA s
  | ldaAbs _ => exact h.readMem h.loadA s
  | ldaAbsx _ => exact h.readMem h.loadA s
  | ldaAbsy _ => exact h.readMem h.loadA s
  | ldaIndx _ => exact h.readMem h.loadA s
  | ldaIndy _ => exact h.readMem h.loadA s
  | ldaZpi _ => exact h.cmosOnly (h.readMem h.loadA s)
  | ldxImm _ => exact h.readImm h.loadX s
  | ldxZp _ => exact h.readMem h.loadX s
  | ldxZpy _ => exact h.readMem h.loadX s
  | ldxAbs _ => exact h.readMem h.loadX s
  | ldxAbsy _ => exact h.readMem h.loadX s
  | ldyImm _ => exact h.readImm h.loadY s
  | ldyZp _ => exact h.readMem h.loadY s
  | ldyZpx _ => exact h.readMem h.loadY s
  | ldyAbs _ => exact h.readMem h.loadY s
  | ldyAbsx _ => exact h.readMem h.loadY s
  | staZp _ => exact h.writeMem s
  | staZpx _ => exact h.writeMem s
  | staAbs _ => exact h.writeMem s
  | staAbsx _ => exact h.writeMem s
  | staAbsy _ => exact h.writeMem s
  | staIndx _ => exact h.writeMem s
  | staIndy _ => exact h.writeMem s
  | staZpi _ => exact h.cmosOnly (h.writeMem s)
  | stxZp _ => exact h.writeMem s
  | stxZpy _ => exact h.writeMem s
  | stxAbs _ => exact h.writeMem s
  | styZp _ => exact h.writeMem s
  | styZpx _ => exact h.writeMem s
  | styAbs _ => exact h.writeMem s
  | stzZp _ => exact h.cmosOnly (h.writeMem s)
  | stzZpx _ => exact h.cmosOnly (h.writeMem s)
  | stzAbs _ => exact h.cmosOnly (h.writeMem s)
  | stzAbsx _ => exact h.cmosOnly (h.writeMem s)
  | tax => exact h.implied (fun t => h.loadX t _) s
  | tay => exact h.implied (fun t => h.loadY t _) s
  | txa => exact h.implied (fun t => h.loadA t _) s
  | tya => exact h.implied (fun t => h.loadA t _) s
  | tsx => exact h.implied (fun t => h.loadX t _) s
  | txs => exact h.implied (fun t => h.setSp t _) s
  | adcImm _ => exact h.arithImm h.adc s
  | adcZp _ => exact h.arithMem h.adc s
  | adcZpx _ => exact h.arithMem h.adc s
  | adcAbs _ => exact h.arithMem h.adc s
  | adcAbsx _ => exact h.arithMem h.adc s
  | adcAbsy _ => exact h.arithMem h.adc s
  | adcIndx _ => exact h.arithMem h.adc s
  | adcIndy _ => exact h.arithMem h.adc s
  | adcZpi _ => exact h.cmosOnly (h.arithMem h.adc s)
  | sbcImm _ => exact h.arithImm h.sbc s
  | sbcZp _ => exact h.arithMem h.sbc s
  | sbcZpx _ => exact h.arithMem h.sbc s
  | sbcAbs _ => exact h.arithMem h.sbc s
  | sbcAbsx _ => exact h.arithMem h.sbc s
  | sbcAbsy _ => exact h.arithMem h.sbc s
  | sbcIndx _ => exact h.arithMem h.sbc s
  | sbcIndy _ => exact h.arithMem h.sbc s
  | sbcZpi _ => exact h.cmosOnly (h.arithMem h.sbc s)
  | cmpImm _ => exact h.readImm (fun t _ => h.setP t _) s
  | cmpZp _ => exact h.readMem (fun t _ => h.setP t _) s
  | cmpZpx _ => exact h.readMem (fun t _ => h.setP t _) s
  | cmpAbs _ => exact h.readMem (fun t _ => h.setP t _) s
  | cmpAbsx _ => exact h.readMem (fun t _ => h.setP t _) s
  | cmpAbsy _ => exact h.readMem (fun t _ => h.setP t _) s
  | cmpIndx _ => exact h.readMem (fun t _ => h.setP t _) s
  | cmpIndy _ => exact h.readMem (fun t _ => h.setP t _) s
  | cmpZpi _ => exact h.cmosOnly (h.readMem (fun t _ => h.setP t _) s)
  | cpxImm _ => exact h.readImm (fun t _ => h.setP t _) s
  | cpxZp _ => exact h.readMem (fun t _ => h.setP t _) s
  | cpxAbs _ => exact h.readMem (fun t _ => h.setP t _) s
  | cpyImm _ => exact h.readImm (fun t _ => h.setP t _) s
  | cpyZp _ => exact h.readMem (fun t _ => h.setP t _) s
  | cpyAbs _ => exact h.readMem (fun t _ => h.setP t _) s
  | incAcc => exact (h.cmosOnly (h.accumulator s) : Ends R s (Machine.cmosOnly 0x1A (Machine.accumulator 0x1A (fun s => incValue s.p)) s))
  | incZp _ => exact h.rmwMem s
  | incZpx _ => exact h.rmwMem s
  | incAbs _ => exact h.rmwMem s
  | incAbsx _ => exact h.rmwMem s
  | decAcc => exact (h.cmosOnly (h.accumulator s) : Ends R s (Machine.cmosOnly 0x3A (Machine.accumulator 0x3A (fun s => decValue s.p)) s))
  | decZp _ => exact h.rmwMem s
  | decZpx _ => exact h.rmwMem s
  | decAbs _ => exact h.rmwMem s
  | decAbsx _ => exact h.rmwMem s
  | inx => exact h.implied (fun t => h.loadX t _) s
  | iny => exact h.implied (fun t => h.loadY t _) s
  | dex => exact h.implied (fun t => h.loadX t _) s
  | dey => exact h.implied (fun t => h.loadY t _) s
  | andImm _ => exact h.readImm (fun t _ => h.loadA t _) s
  | andZp _ => exact h.readMem (fun t _ => h.loadA t _) s
  | andZpx _ => exact h.readMem (fun t _ => h.loadA t _) s
  | andAbs _ => exact h.readMem (fun t _ => h.loadA t _) s
  | andAbsx _ => exact h.readMem (fun t _ => h.loadA t _) s
  | andAbsy _ => exact h.readMem (fun t _ => h.loadA t _) s
  | andIndx _ => exact h.readMem (fun t _ => h.loadA t _) s
  | andIndy _ => exact h.readMem (fun t _ => h.loadA t _) s
  | andZpi _ => exact h.cmosOnly (h.readMem (fun t _ => h.loadA t _) s)
  | oraImm _ => exact h.readImm (fun t _ => h.loadA t _) s
  | oraZp _ => exact h.readMem (fun t _ => h.loadA t _) s
  | oraZpx _ => exact h.readMem (fun t _ => h.loadA t _) s
  | oraAbs _ => exact h.readMem (fun t _ => h.loadA t _) s
  | oraAbsx _ => exact h.readMem (fun t _ => h.loadA t _) s
  | oraAbsy _ => exact h.readMem (fun t _ => h.loadA t _) s
  | oraIndx _ => exact h.readMem (fun t _ => h.loadA t _) s
  | oraIndy _ => exact h.readMem (fun t _ => h.loadA t _) s
  | oraZpi _ => exact h.cmosOnly (h.readMem (fun t _ => h.loadA t _) s)
  | eorImm _ => exact h.readImm (fun t _ => h.loadA t _) s
  | eorZp _ => exact h.readMem (fun t _ => h.loadA t _) s
  | eorZpx _ => exact h.readMem (fun t _ => h.loadA t _) s
  | eorAbs _ => exact h.readMem (fun t _ => h.loadA t _) s
  | eorAbsx _ => exact h.readMem (fun t _ => h.loadA t _) s
  | eorAbsy _ => exact h.readMem (fun t _ => h.loadA t _) s
  | eorIndx _ => exact h.readMem (fun t _ => h.loadA t _) s
  | eorIndy _ => exact h.readMem (fun t _ => h.loadA t _) s
  | eorZpi _ => exact h.cmosOnly (h.readMem (fun t _ => h.loadA t _) s)
  | bitImm _ => exact h.cmosOnly (h.readImm (fun t _ => h.setP t _) s)
  | bitZp _ => exact h.readMem (fun t _ => h.setP t _) s
  | bitZpx _ => exact h.cmosOnly (h.readMem (fun t _ => h.setP t _) s)
  | bitAbs _ => exact h.readMem (fun t _ => h.setP t _) s
  | bitAbsx _ => exact h.cmosOnly (h.readMem (fun t _ => h.setP t _) s)
  | aslAcc => exact (h.accumulator s : Ends R s (Machine.accumulator 0x0A (fun s => aslValue s.p) s))
  | aslZp _ => exact h.rmwMem s
  | aslZpx _ => exact h.rmwMem s
  | aslAbs _ => exact h.rmwMem s
  | aslAbsx _ => exact h.rmwMem s
  | lsrAcc => exact (h.accumulator s : Ends R s (Machine.accumulator 0x4A (fun s => lsrValue s.p) s))
  | lsrZp _ => exact h.rmwMem s
  | lsrZpx _ => exact h.rmwMem s
  | lsrAbs _ => exact h.rmwMem s
  | lsrAbsx _ => exact h.rmwMem s
  | rolAcc => exact (h.accumulator s : Ends R s (Machine.accumulator 0x2A (fun s => rolValue s.p) s))
  | rolZp _ => exact h.rmwMem s
  | rolZpx _ => exact h.rmwMem s
  | rolAbs _ => exact h.rmwMem s
  | rolAbsx _ => exact h.rmwMem s
  | rorAcc => exact (h.accumulator s : Ends R s (Machine.accumulator 0x6A (fun s => rorValue s.p) s))
  | rorZp _ => exact h.rmwMem s
  | rorZpx _ => exact h.rmwMem s
  | rorAbs _ => exact h.rmwMem s
  | rorAbsx _ => exact h.rmwMem s
  | trbZp _ => exact h.cmosOnly (h.rmwMem s)
  | trbAbs _ => exact h.cmosOnly (h.rmwMem s)
  | tsbZp _ => exact h.cmosOnly (h.rmwMem s)
  | tsbAbs _ => exact h.cmosOnly (h.rmwMem s)
  | rmb0 _ => exact h.cmosOnly (h.rmwMem s)
  | rmb1 _ => exact h.cmosOnly (h.rmwMem s)
  | rmb2 _ => exact h.cmosOnly (h.rmwMem s)
  | rmb3 _ => exact h.cmosOnly (h.rmwMem s)
  | rmb4 _ => exact h.cmosOnly (h.rmwMem s)
  | rmb5 _ => exact h.cmosOnly (h.rmwMem s)
  | rmb6 _ => exact h.cmosOnly (h.rmwMem s)
  | rmb7 _ => exact h.cmosOnly (h.rmwMem s)
  | smb0 _ => exact h.cmosOnly (h.rmwMem s)
  | smb1 _ => exact h.cmosOnly (h.rmwMem s)
  | smb2 _ => exact h.cmosOnly (h.rmwMem s)
  | smb3 _ => exact h.cmosOnly (h.rmwMem s)
  | smb4 _ => exact h.cmosOnly (h.rmwMem s)
  | smb5 _ => exact h.cmosOnly (h.rmwMem s)
  | smb6 _ => exact h.cmosOnly (h.rmwMem s)
  | smb7 _ => exact h.cmosOnly (h.rmwMem s)
  | bpl r => exact (h.branch s : Ends R s (Machine.branch 0x10 (fun p => !flag p .n) r s))
  | bmi r => exact (h.branch s : Ends R s (Machine.branch 0x30 (fun p => flag p .n) r s))
  | bvc r => exact (h.branch s : Ends R s (Machine.branch 0x50 (fun p => !flag p .v) r s))
  | bvs r => exact (h.branch s : Ends R s (Machine.branch 0x70 (fun p => flag p .v) r s))
  | bcc r => exact (h.branch s : Ends R s (Machine.branch 0x90 (fun p => !flag p .c) r s))
  | bcs r => exact (h.branch s : Ends R s (Machine.branch 0xB0 (fun p => flag p .c) r s))
  | bne r => exact (h.branch s : Ends R s (Machine.branch 0xD0 (fun p => !flag p .z) r s))
  | beq r => exact (h.branch s : Ends R s (Machine.branch 0xF0 (fun p => flag p .z) r s))
  | bra r => exact (h.cmosOnly (h.branch s) : Ends R s (Machine.cmosOnly 0x80 (Machine.branch 0x80 (fun _ => true) r) s))
  | bbr0 _ _ => exact h.cmosOnly (h.bitBranch s)
  | bbr1 _ _ => exact h.cmosOnly (h.bitBranch s)
  | bbr2 _ _ => exact h.cmosOnly (h.bitBranch s)
  | bbr3 _ _ => exact h.cmosOnly (h.bitBranch s)
  | bbr4 _ _ => exact h.cmosOnly (h.bitBranch s)
  | bbr5 _ _ => exact h.cmosOnly (h.bitBranch s)
  | bbr6 _ _ => exact h.cmosOnly (h.bitBranch s)
  | bbr7 _ _ => exact h.cmosOnly (h.bitBranch s)
  | bbs0 _ _ => exact h.cmosOnly (h.bitBranch s)
  | bbs1 _ _ => exact h.cmosOnly (h.bitBranch s)
  | bbs2 _ _ => exact h.cmosOnly (h.bitBranch s)
  | bbs3 _ _ => exact h.cmosOnly (h.bitBranch s)
  | bbs4 _ _ => exact h.cmosOnly (h.bitBranch s)
  | bbs5 _ _ => exact h.cmosOnly (h.bitBranch s)
  | bbs6 _ _ => exact h.cmosOnly (h.bitBranch s)
  | bbs7 _ _ => exact h.cmosOnly (h.bitBranch s)
  | jmpAbs _ => exact Respected.runInstr (h.bind (h.fetchWord _) fun _ => h.bind (Run.Moves.modified fun t => h.setPc t _) fun _ => h.ret _) s
  | jmpInd _ => exact Respected.runInstr (h.bind (h.indirectTarget _) fun _ => h.bind (Run.Moves.modified fun t => h.setPc t _) fun _ => h.ret _) s
  | jmpAix _ => exact h.cmosOnly (Respected.runInstr (h.bind (h.indexedIndirectTarget _) fun _ => h.bind (Run.Moves.modified fun t => h.setPc t _) fun _ => h.ret _) s)
  | jsr _ => exact Respected.runInstr (h.bind (h.fetchWord _) fun _ => h.bind h.get fun _ => h.bind (h.push _) fun _ => h.bind (h.push _) fun _ =>
      h.bind (Run.Moves.modified fun t => h.setPc t _) fun _ => h.ret _) s
  | rts => exact Respected.runInstr (h.bind h.pop fun _ => h.bind h.pop fun _ => h.bind (Run.Moves.modified fun t => h.setPc t _) fun _ => h.ret _) s
  | rti => exact Respected.runInstr (h.bind h.pop fun _ => h.bind (Run.Moves.modified fun t => h.setP t _) fun _ => h.bind h.pop fun _ =>
      h.bind h.pop fun _ => h.bind (Run.Moves.modified fun t => h.setPc t _) fun _ => h.ret _) s
  | brk => exact absurd rfl hb
  | nop => exact h.implied h.refl s
  | pha => exact h.pushByte s
  | php => exact h.pushByte s
  | pla => exact h.pullByte h.loadA s
  | plp => exact h.pullByte h.setP s
  | phx => exact h.cmosOnly (h.pushByte s)
  | phy => exact h.cmosOnly (h.pushByte s)
  | plx => exact h.cmosOnly (h.pullByte h.loadX s)
  | ply => exact h.cmosOnly (h.pullByte h.loadY s)
  | clc => exact h.implied (fun t => h.setP t _) s
  | cld => exact h.implied (fun t => h.setP t _) s
  | cli => exact h.implied (fun t => h.setP t _) s
  | clv => exact h.implied (fun t => h.setP t _) s
  | sec => exact h.implied (fun t => h.setP t _) s
  | sed => exact h.implied (fun t => h.setP t _) s
  | sei => exact h.implied (fun t => h.setP t _) s

/-- One step of a run: the opcode fetch, then an instruction or an illegal opcode. -/
theorem Respected.stepInstr (h : Respected R) (hh : ∀ s, R s s.haltRun) (s : State) : Ends R s (Machine.stepInstr s) := by
  unfold Machine.stepInstr
  have hf := h.fetchByte s
  unfold Run.endState at hf
  cases hs : Machine.fetchByte s with
  | error f s' => rw [hs] at hf; exact ⟨s', hf, .inr ⟨f, rfl⟩⟩
  | ok op s' =>
    rw [hs] at hf
    dsimp only at hf ⊢
    split
    · rename_i i rest _
      obtain ⟨t, ht, he⟩ := h.exec hh i s'
      exact ⟨t, h.trans _ _ _ hf ht, he⟩
    · exact ⟨s', hf, .inr ⟨_, rfl⟩⟩

end Sys2Proof.Machine
end

