-- ==== Sys2Proof/Laws/PerInstr.lean ====
section
/-! SUPPORT. Statements about every instruction as syntax, one lemma per constructor. Family `RoundTrip`: the opcode map
(30_encoding.md R147) read at the instruction's own opcode and operand bytes (R141, R142) gives that instruction back. -/

namespace Sys2Proof

namespace Laws

/-- The opcode map at the opcode and the operand bytes of `i`, whatever bytes follow, gives `i`. -/
def RoundTrip.Statement (i : Instr) : Prop :=
  ∀ rest : List Byte,
    opcodeMap i.opcode ((i.operand.bytes ++ rest).getD 0 0) ((i.operand.bytes ++ rest).getD 1 0) = some i

theorem RoundTrip.ldaImm (v : Byte) : RoundTrip.Statement (.ldaImm v) := fun _ =>
  (rfl : opcodeMap 0xA9 _ _ = some (Instr.ldaImm v))
theorem RoundTrip.ldaZp (z : Byte) : RoundTrip.Statement (.ldaZp z) := fun _ =>
  (rfl : opcodeMap 0xA5 _ _ = some (Instr.ldaZp z))
theorem RoundTrip.ldaZpx (z : Byte) : RoundTrip.Statement (.ldaZpx z) := fun _ =>
  (rfl : opcodeMap 0xB5 _ _ = some (Instr.ldaZpx z))
theorem RoundTrip.ldaAbs (a : Addr) : RoundTrip.Statement (.ldaAbs a) := fun _ =>
  (rfl : opcodeMap 0xAD (lo8 a) (hi8 a) = some (.ldaAbs (w16 (hi8 a) (lo8 a)))).trans (congrArg (fun a => some (Instr.ldaAbs a)) (w16_hi_lo a))
theorem RoundTrip.ldaAbsx (a : Addr) : RoundTrip.Statement (.ldaAbsx a) := fun _ =>
  (rfl : opcodeMap 0xBD (lo8 a) (hi8 a) = some (.ldaAbsx (w16 (hi8 a) (lo8 a)))).trans (congrArg (fun a => some (Instr.ldaAbsx a)) (w16_hi_lo a))
theorem RoundTrip.ldaAbsy (a : Addr) : RoundTrip.Statement (.ldaAbsy a) := fun _ =>
  (rfl : opcodeMap 0xB9 (lo8 a) (hi8 a) = some (.ldaAbsy (w16 (hi8 a) (lo8 a)))).trans (congrArg (fun a => some (Instr.ldaAbsy a)) (w16_hi_lo a))
theorem RoundTrip.ldaIndx (z : Byte) : RoundTrip.Statement (.ldaIndx z) := fun _ =>
  (rfl : opcodeMap 0xA1 _ _ = some (Instr.ldaIndx z))
theorem RoundTrip.ldaIndy (z : Byte) : RoundTrip.Statement (.ldaIndy z) := fun _ =>
  (rfl : opcodeMap 0xB1 _ _ = some (Instr.ldaIndy z))
theorem RoundTrip.ldaZpi (z : Byte) : RoundTrip.Statement (.ldaZpi z) := fun _ =>
  (rfl : opcodeMap 0xB2 _ _ = some (Instr.ldaZpi z))
theorem RoundTrip.ldxImm (v : Byte) : RoundTrip.Statement (.ldxImm v) := fun _ =>
  (rfl : opcodeMap 0xA2 _ _ = some (Instr.ldxImm v))
theorem RoundTrip.ldxZp (z : Byte) : RoundTrip.Statement (.ldxZp z) := fun _ =>
  (rfl : opcodeMap 0xA6 _ _ = some (Instr.ldxZp z))
theorem RoundTrip.ldxZpy (z : Byte) : RoundTrip.Statement (.ldxZpy z) := fun _ =>
  (rfl : opcodeMap 0xB6 _ _ = some (Instr.ldxZpy z))
theorem RoundTrip.ldxAbs (a : Addr) : RoundTrip.Statement (.ldxAbs a) := fun _ =>
  (rfl : opcodeMap 0xAE (lo8 a) (hi8 a) = some (.ldxAbs (w16 (hi8 a) (lo8 a)))).trans (congrArg (fun a => some (Instr.ldxAbs a)) (w16_hi_lo a))
theorem RoundTrip.ldxAbsy (a : Addr) : RoundTrip.Statement (.ldxAbsy a) := fun _ =>
  (rfl : opcodeMap 0xBE (lo8 a) (hi8 a) = some (.ldxAbsy (w16 (hi8 a) (lo8 a)))).trans (congrArg (fun a => some (Instr.ldxAbsy a)) (w16_hi_lo a))
theorem RoundTrip.ldyImm (v : Byte) : RoundTrip.Statement (.ldyImm v) := fun _ =>
  (rfl : opcodeMap 0xA0 _ _ = some (Instr.ldyImm v))
theorem RoundTrip.ldyZp (z : Byte) : RoundTrip.Statement (.ldyZp z) := fun _ =>
  (rfl : opcodeMap 0xA4 _ _ = some (Instr.ldyZp z))
theorem RoundTrip.ldyZpx (z : Byte) : RoundTrip.Statement (.ldyZpx z) := fun _ =>
  (rfl : opcodeMap 0xB4 _ _ = some (Instr.ldyZpx z))
theorem RoundTrip.ldyAbs (a : Addr) : RoundTrip.Statement (.ldyAbs a) := fun _ =>
  (rfl : opcodeMap 0xAC (lo8 a) (hi8 a) = some (.ldyAbs (w16 (hi8 a) (lo8 a)))).trans (congrArg (fun a => some (Instr.ldyAbs a)) (w16_hi_lo a))
theorem RoundTrip.ldyAbsx (a : Addr) : RoundTrip.Statement (.ldyAbsx a) := fun _ =>
  (rfl : opcodeMap 0xBC (lo8 a) (hi8 a) = some (.ldyAbsx (w16 (hi8 a) (lo8 a)))).trans (congrArg (fun a => some (Instr.ldyAbsx a)) (w16_hi_lo a))
theorem RoundTrip.staZp (z : Byte) : RoundTrip.Statement (.staZp z) := fun _ =>
  (rfl : opcodeMap 0x85 _ _ = some (Instr.staZp z))
theorem RoundTrip.staZpx (z : Byte) : RoundTrip.Statement (.staZpx z) := fun _ =>
  (rfl : opcodeMap 0x95 _ _ = some (Instr.staZpx z))
theorem RoundTrip.staAbs (a : Addr) : RoundTrip.Statement (.staAbs a) := fun _ =>
  (rfl : opcodeMap 0x8D (lo8 a) (hi8 a) = some (.staAbs (w16 (hi8 a) (lo8 a)))).trans (congrArg (fun a => some (Instr.staAbs a)) (w16_hi_lo a))
theorem RoundTrip.staAbsx (a : Addr) : RoundTrip.Statement (.staAbsx a) := fun _ =>
  (rfl : opcodeMap 0x9D (lo8 a) (hi8 a) = some (.staAbsx (w16 (hi8 a) (lo8 a)))).trans (congrArg (fun a => some (Instr.staAbsx a)) (w16_hi_lo a))
theorem RoundTrip.staAbsy (a : Addr) : RoundTrip.Statement (.staAbsy a) := fun _ =>
  (rfl : opcodeMap 0x99 (lo8 a) (hi8 a) = some (.staAbsy (w16 (hi8 a) (lo8 a)))).trans (congrArg (fun a => some (Instr.staAbsy a)) (w16_hi_lo a))
theorem RoundTrip.staIndx (z : Byte) : RoundTrip.Statement (.staIndx z) := fun _ =>
  (rfl : opcodeMap 0x81 _ _ = some (Instr.staIndx z))
theorem RoundTrip.staIndy (z : Byte) : RoundTrip.Statement (.staIndy z) := fun _ =>
  (rfl : opcodeMap 0x91 _ _ = some (Instr.staIndy z))
theorem RoundTrip.staZpi (z : Byte) : RoundTrip.Statement (.staZpi z) := fun _ =>
  (rfl : opcodeMap 0x92 _ _ = some (Instr.staZpi z))
theorem RoundTrip.stxZp (z : Byte) : RoundTrip.Statement (.stxZp z) := fun _ =>
  (rfl : opcodeMap 0x86 _ _ = some (Instr.stxZp z))
theorem RoundTrip.stxZpy (z : Byte) : RoundTrip.Statement (.stxZpy z) := fun _ =>
  (rfl : opcodeMap 0x96 _ _ = some (Instr.stxZpy z))
theorem RoundTrip.stxAbs (a : Addr) : RoundTrip.Statement (.stxAbs a) := fun _ =>
  (rfl : opcodeMap 0x8E (lo8 a) (hi8 a) = some (.stxAbs (w16 (hi8 a) (lo8 a)))).trans (congrArg (fun a => some (Instr.stxAbs a)) (w16_hi_lo a))
theorem RoundTrip.styZp (z : Byte) : RoundTrip.Statement (.styZp z) := fun _ =>
  (rfl : opcodeMap 0x84 _ _ = some (Instr.styZp z))
theorem RoundTrip.styZpx (z : Byte) : RoundTrip.Statement (.styZpx z) := fun _ =>
  (rfl : opcodeMap 0x94 _ _ = some (Instr.styZpx z))
theorem RoundTrip.styAbs (a : Addr) : RoundTrip.Statement (.styAbs a) := fun _ =>
  (rfl : opcodeMap 0x8C (lo8 a) (hi8 a) = some (.styAbs (w16 (hi8 a) (lo8 a)))).trans (congrArg (fun a => some (Instr.styAbs a)) (w16_hi_lo a))
theorem RoundTrip.stzZp (z : Byte) : RoundTrip.Statement (.stzZp z) := fun _ =>
  (rfl : opcodeMap 0x64 _ _ = some (Instr.stzZp z))
theorem RoundTrip.stzZpx (z : Byte) : RoundTrip.Statement (.stzZpx z) := fun _ =>
  (rfl : opcodeMap 0x74 _ _ = some (Instr.stzZpx z))
theorem RoundTrip.stzAbs (a : Addr) : RoundTrip.Statement (.stzAbs a) := fun _ =>
  (rfl : opcodeMap 0x9C (lo8 a) (hi8 a) = some (.stzAbs (w16 (hi8 a) (lo8 a)))).trans (congrArg (fun a => some (Instr.stzAbs a)) (w16_hi_lo a))
theorem RoundTrip.stzAbsx (a : Addr) : RoundTrip.Statement (.stzAbsx a) := fun _ =>
  (rfl : opcodeMap 0x9E (lo8 a) (hi8 a) = some (.stzAbsx (w16 (hi8 a) (lo8 a)))).trans (congrArg (fun a => some (Instr.stzAbsx a)) (w16_hi_lo a))
theorem RoundTrip.tax : RoundTrip.Statement (.tax) := fun _ =>
  (rfl : opcodeMap 0xAA _ _ = some (Instr.tax))
theorem RoundTrip.tay : RoundTrip.Statement (.tay) := fun _ =>
  (rfl : opcodeMap 0xA8 _ _ = some (Instr.tay))
theorem RoundTrip.txa : RoundTrip.Statement (.txa) := fun _ =>
  (rfl : opcodeMap 0x8A _ _ = some (Instr.txa))
theorem RoundTrip.tya : RoundTrip.Statement (.tya) := fun _ =>
  (rfl : opcodeMap 0x98 _ _ = some (Instr.tya))
theorem RoundTrip.tsx : RoundTrip.Statement (.tsx) := fun _ =>
  (rfl : opcodeMap 0xBA _ _ = some (Instr.tsx))
theorem RoundTrip.txs : RoundTrip.Statement (.txs) := fun _ =>
  (rfl : opcodeMap 0x9A _ _ = some (Instr.txs))
theorem RoundTrip.adcImm (v : Byte) : RoundTrip.Statement (.adcImm v) := fun _ =>
  (rfl : opcodeMap 0x69 _ _ = some (Instr.adcImm v))
theorem RoundTrip.adcZp (z : Byte) : RoundTrip.Statement (.adcZp z) := fun _ =>
  (rfl : opcodeMap 0x65 _ _ = some (Instr.adcZp z))
theorem RoundTrip.adcZpx (z : Byte) : RoundTrip.Statement (.adcZpx z) := fun _ =>
  (rfl : opcodeMap 0x75 _ _ = some (Instr.adcZpx z))
theorem RoundTrip.adcAbs (a : Addr) : RoundTrip.Statement (.adcAbs a) := fun _ =>
  (rfl : opcodeMap 0x6D (lo8 a) (hi8 a) = some (.adcAbs (w16 (hi8 a) (lo8 a)))).trans (congrArg (fun a => some (Instr.adcAbs a)) (w16_hi_lo a))
theorem RoundTrip.adcAbsx (a : Addr) : RoundTrip.Statement (.adcAbsx a) := fun _ =>
  (rfl : opcodeMap 0x7D (lo8 a) (hi8 a) = some (.adcAbsx (w16 (hi8 a) (lo8 a)))).trans (congrArg (fun a => some (Instr.adcAbsx a)) (w16_hi_lo a))
theorem RoundTrip.adcAbsy (a : Addr) : RoundTrip.Statement (.adcAbsy a) := fun _ =>
  (rfl : opcodeMap 0x79 (lo8 a) (hi8 a) = some (.adcAbsy (w16 (hi8 a) (lo8 a)))).trans (congrArg (fun a => some (Instr.adcAbsy a)) (w16_hi_lo a))
theorem RoundTrip.adcIndx (z : Byte) : RoundTrip.Statement (.adcIndx z) := fun _ =>
  (rfl : opcodeMap 0x61 _ _ = some (Instr.adcIndx z))
theorem RoundTrip.adcIndy (z : Byte) : RoundTrip.Statement (.adcIndy z) := fun _ =>
  (rfl : opcodeMap 0x71 _ _ = some (Instr.adcIndy z))
theorem RoundTrip.adcZpi (z : Byte) : RoundTrip.Statement (.adcZpi z) := fun _ =>
  (rfl : opcodeMap 0x72 _ _ = some (Instr.adcZpi z))
theorem RoundTrip.sbcImm (v : Byte) : RoundTrip.Statement (.sbcImm v) := fun _ =>
  (rfl : opcodeMap 0xE9 _ _ = some (Instr.sbcImm v))
theorem RoundTrip.sbcZp (z : Byte) : RoundTrip.Statement (.sbcZp z) := fun _ =>
  (rfl : opcodeMap 0xE5 _ _ = some (Instr.sbcZp z))
theorem RoundTrip.sbcZpx (z : Byte) : RoundTrip.Statement (.sbcZpx z) := fun _ =>
  (rfl : opcodeMap 0xF5 _ _ = some (Instr.sbcZpx z))
theorem RoundTrip.sbcAbs (a : Addr) : RoundTrip.Statement (.sbcAbs a) := fun _ =>
  (rfl : opcodeMap 0xED (lo8 a) (hi8 a) = some (.sbcAbs (w16 (hi8 a) (lo8 a)))).trans (congrArg (fun a => some (Instr.sbcAbs a)) (w16_hi_lo a))
theorem RoundTrip.sbcAbsx (a : Addr) : RoundTrip.Statement (.sbcAbsx a) := fun _ =>
  (rfl : opcodeMap 0xFD (lo8 a) (hi8 a) = some (.sbcAbsx (w16 (hi8 a) (lo8 a)))).trans (congrArg (fun a => some (Instr.sbcAbsx a)) (w16_hi_lo a))
theorem RoundTrip.sbcAbsy (a : Addr) : RoundTrip.Statement (.sbcAbsy a) := fun _ =>
  (rfl : opcodeMap 0xF9 (lo8 a) (hi8 a) = some (.sbcAbsy (w16 (hi8 a) (lo8 a)))).trans (congrArg (fun a => some (Instr.sbcAbsy a)) (w16_hi_lo a))
theorem RoundTrip.sbcIndx (z : Byte) : RoundTrip.Statement (.sbcIndx z) := fun _ =>
  (rfl : opcodeMap 0xE1 _ _ = some (Instr.sbcIndx z))
theorem RoundTrip.sbcIndy (z : Byte) : RoundTrip.Statement (.sbcIndy z) := fun _ =>
  (rfl : opcodeMap 0xF1 _ _ = some (Instr.sbcIndy z))
theorem RoundTrip.sbcZpi (z : Byte) : RoundTrip.Statement (.sbcZpi z) := fun _ =>
  (rfl : opcodeMap 0xF2 _ _ = some (Instr.sbcZpi z))
theorem RoundTrip.cmpImm (v : Byte) : RoundTrip.Statement (.cmpImm v) := fun _ =>
  (rfl : opcodeMap 0xC9 _ _ = some (Instr.cmpImm v))
theorem RoundTrip.cmpZp (z : Byte) : RoundTrip.Statement (.cmpZp z) := fun _ =>
  (rfl : opcodeMap 0xC5 _ _ = some (Instr.cmpZp z))
theorem RoundTrip.cmpZpx (z : Byte) : RoundTrip.Statement (.cmpZpx z) := fun _ =>
  (rfl : opcodeMap 0xD5 _ _ = some (Instr.cmpZpx z))
theorem RoundTrip.cmpAbs (a : Addr) : RoundTrip.Statement (.cmpAbs a) := fun _ =>
  (rfl : opcodeMap 0xCD (lo8 a) (hi8 a) = some (.cmpAbs (w16 (hi8 a) (lo8 a)))).trans (congrArg (fun a => some (Instr.cmpAbs a)) (w16_hi_lo a))
theorem RoundTrip.cmpAbsx (a : Addr) : RoundTrip.Statement (.cmpAbsx a) := fun _ =>
  (rfl : opcodeMap 0xDD (lo8 a) (hi8 a) = some (.cmpAbsx (w16 (hi8 a) (lo8 a)))).trans (congrArg (fun a => some (Instr.cmpAbsx a)) (w16_hi_lo a))
theorem RoundTrip.cmpAbsy (a : Addr) : RoundTrip.Statement (.cmpAbsy a) := fun _ =>
  (rfl : opcodeMap 0xD9 (lo8 a) (hi8 a) = some (.cmpAbsy (w16 (hi8 a) (lo8 a)))).trans (congrArg (fun a => some (Instr.cmpAbsy a)) (w16_hi_lo a))
theorem RoundTrip.cmpIndx (z : Byte) : RoundTrip.Statement (.cmpIndx z) := fun _ =>
  (rfl : opcodeMap 0xC1 _ _ = some (Instr.cmpIndx z))
theorem RoundTrip.cmpIndy (z : Byte) : RoundTrip.Statement (.cmpIndy z) := fun _ =>
  (rfl : opcodeMap 0xD1 _ _ = some (Instr.cmpIndy z))
theorem RoundTrip.cmpZpi (z : Byte) : RoundTrip.Statement (.cmpZpi z) := fun _ =>
  (rfl : opcodeMap 0xD2 _ _ = some (Instr.cmpZpi z))
theorem RoundTrip.cpxImm (v : Byte) : RoundTrip.Statement (.cpxImm v) := fun _ =>
  (rfl : opcodeMap 0xE0 _ _ = some (Instr.cpxImm v))
theorem RoundTrip.cpxZp (z : Byte) : RoundTrip.Statement (.cpxZp z) := fun _ =>
  (rfl : opcodeMap 0xE4 _ _ = some (Instr.cpxZp z))
theorem RoundTrip.cpxAbs (a : Addr) : RoundTrip.Statement (.cpxAbs a) := fun _ =>
  (rfl : opcodeMap 0xEC (lo8 a) (hi8 a) = some (.cpxAbs (w16 (hi8 a) (lo8 a)))).trans (congrArg (fun a => some (Instr.cpxAbs a)) (w16_hi_lo a))
theorem RoundTrip.cpyImm (v : Byte) : RoundTrip.Statement (.cpyImm v) := fun _ =>
  (rfl : opcodeMap 0xC0 _ _ = some (Instr.cpyImm v))
theorem RoundTrip.cpyZp (z : Byte) : RoundTrip.Statement (.cpyZp z) := fun _ =>
  (rfl : opcodeMap 0xC4 _ _ = some (Instr.cpyZp z))
theorem RoundTrip.cpyAbs (a : Addr) : RoundTrip.Statement (.cpyAbs a) := fun _ =>
  (rfl : opcodeMap 0xCC (lo8 a) (hi8 a) = some (.cpyAbs (w16 (hi8 a) (lo8 a)))).trans (congrArg (fun a => some (Instr.cpyAbs a)) (w16_hi_lo a))
theorem RoundTrip.incAcc : RoundTrip.Statement (.incAcc) := fun _ =>
  (rfl : opcodeMap 0x1A _ _ = some (Instr.incAcc))
theorem RoundTrip.incZp (z : Byte) : RoundTrip.Statement (.incZp z) := fun _ =>
  (rfl : opcodeMap 0xE6 _ _ = some (Instr.incZp z))
theorem RoundTrip.incZpx (z : Byte) : RoundTrip.Statement (.incZpx z) := fun _ =>
  (rfl : opcodeMap 0xF6 _ _ = some (Instr.incZpx z))
theorem RoundTrip.incAbs (a : Addr) : RoundTrip.Statement (.incAbs a) := fun _ =>
  (rfl : opcodeMap 0xEE (lo8 a) (hi8 a) = some (.incAbs (w16 (hi8 a) (lo8 a)))).trans (congrArg (fun a => some (Instr.incAbs a)) (w16_hi_lo a))
theorem RoundTrip.incAbsx (a : Addr) : RoundTrip.Statement (.incAbsx a) := fun _ =>
  (rfl : opcodeMap 0xFE (lo8 a) (hi8 a) = some (.incAbsx (w16 (hi8 a) (lo8 a)))).trans (congrArg (fun a => some (Instr.incAbsx a)) (w16_hi_lo a))
theorem RoundTrip.decAcc : RoundTrip.Statement (.decAcc) := fun _ =>
  (rfl : opcodeMap 0x3A _ _ = some (Instr.decAcc))
theorem RoundTrip.decZp (z : Byte) : RoundTrip.Statement (.decZp z) := fun _ =>
  (rfl : opcodeMap 0xC6 _ _ = some (Instr.decZp z))
theorem RoundTrip.decZpx (z : Byte) : RoundTrip.Statement (.decZpx z) := fun _ =>
  (rfl : opcodeMap 0xD6 _ _ = some (Instr.decZpx z))
theorem RoundTrip.decAbs (a : Addr) : RoundTrip.Statement (.decAbs a) := fun _ =>
  (rfl : opcodeMap 0xCE (lo8 a) (hi8 a) = some (.decAbs (w16 (hi8 a) (lo8 a)))).trans (congrArg (fun a => some (Instr.decAbs a)) (w16_hi_lo a))
theorem RoundTrip.decAbsx (a : Addr) : RoundTrip.Statement (.decAbsx a) := fun _ =>
  (rfl : opcodeMap 0xDE (lo8 a) (hi8 a) = some (.decAbsx (w16 (hi8 a) (lo8 a)))).trans (congrArg (fun a => some (Instr.decAbsx a)) (w16_hi_lo a))
theorem RoundTrip.inx : RoundTrip.Statement (.inx) := fun _ =>
  (rfl : opcodeMap 0xE8 _ _ = some (Instr.inx))
theorem RoundTrip.iny : RoundTrip.Statement (.iny) := fun _ =>
  (rfl : opcodeMap 0xC8 _ _ = some (Instr.iny))
theorem RoundTrip.dex : RoundTrip.Statement (.dex) := fun _ =>
  (rfl : opcodeMap 0xCA _ _ = some (Instr.dex))
theorem RoundTrip.dey : RoundTrip.Statement (.dey) := fun _ =>
  (rfl : opcodeMap 0x88 _ _ = some (Instr.dey))
theorem RoundTrip.andImm (v : Byte) : RoundTrip.Statement (.andImm v) := fun _ =>
  (rfl : opcodeMap 0x29 _ _ = some (Instr.andImm v))
theorem RoundTrip.andZp (z : Byte) : RoundTrip.Statement (.andZp z) := fun _ =>
  (rfl : opcodeMap 0x25 _ _ = some (Instr.andZp z))
theorem RoundTrip.andZpx (z : Byte) : RoundTrip.Statement (.andZpx z) := fun _ =>
  (rfl : opcodeMap 0x35 _ _ = some (Instr.andZpx z))
theorem RoundTrip.andAbs (a : Addr) : RoundTrip.Statement (.andAbs a) := fun _ =>
  (rfl : opcodeMap 0x2D (lo8 a) (hi8 a) = some (.andAbs (w16 (hi8 a) (lo8 a)))).trans (congrArg (fun a => some (Instr.andAbs a)) (w16_hi_lo a))
theorem RoundTrip.andAbsx (a : Addr) : RoundTrip.Statement (.andAbsx a) := fun _ =>
  (rfl : opcodeMap 0x3D (lo8 a) (hi8 a) = some (.andAbsx (w16 (hi8 a) (lo8 a)))).trans (congrArg (fun a => some (Instr.andAbsx a)) (w16_hi_lo a))
theorem RoundTrip.andAbsy (a : Addr) : RoundTrip.Statement (.andAbsy a) := fun _ =>
  (rfl : opcodeMap 0x39 (lo8 a) (hi8 a) = some (.andAbsy (w16 (hi8 a) (lo8 a)))).trans (congrArg (fun a => some (Instr.andAbsy a)) (w16_hi_lo a))
theorem RoundTrip.andIndx (z : Byte) : RoundTrip.Statement (.andIndx z) := fun _ =>
  (rfl : opcodeMap 0x21 _ _ = some (Instr.andIndx z))
theorem RoundTrip.andIndy (z : Byte) : RoundTrip.Statement (.andIndy z) := fun _ =>
  (rfl : opcodeMap 0x31 _ _ = some (Instr.andIndy z))
theorem RoundTrip.andZpi (z : Byte) : RoundTrip.Statement (.andZpi z) := fun _ =>
  (rfl : opcodeMap 0x32 _ _ = some (Instr.andZpi z))
theorem RoundTrip.oraImm (v : Byte) : RoundTrip.Statement (.oraImm v) := fun _ =>
  (rfl : opcodeMap 0x09 _ _ = some (Instr.oraImm v))
theorem RoundTrip.oraZp (z : Byte) : RoundTrip.Statement (.oraZp z) := fun _ =>
  (rfl : opcodeMap 0x05 _ _ = some (Instr.oraZp z))
theorem RoundTrip.oraZpx (z : Byte) : RoundTrip.Statement (.oraZpx z) := fun _ =>
  (rfl : opcodeMap 0x15 _ _ = some (Instr.oraZpx z))
theorem RoundTrip.oraAbs (a : Addr) : RoundTrip.Statement (.oraAbs a) := fun _ =>
  (rfl : opcodeMap 0x0D (lo8 a) (hi8 a) = some (.oraAbs (w16 (hi8 a) (lo8 a)))).trans (congrArg (fun a => some (Instr.oraAbs a)) (w16_hi_lo a))
theorem RoundTrip.oraAbsx (a : Addr) : RoundTrip.Statement (.oraAbsx a) := fun _ =>
  (rfl : opcodeMap 0x1D (lo8 a) (hi8 a) = some (.oraAbsx (w16 (hi8 a) (lo8 a)))).trans (congrArg (fun a => some (Instr.oraAbsx a)) (w16_hi_lo a))
theorem RoundTrip.oraAbsy (a : Addr) : RoundTrip.Statement (.oraAbsy a) := fun _ =>
  (rfl : opcodeMap 0x19 (lo8 a) (hi8 a) = some (.oraAbsy (w16 (hi8 a) (lo8 a)))).trans (congrArg (fun a => some (Instr.oraAbsy a)) (w16_hi_lo a))
theorem RoundTrip.oraIndx (z : Byte) : RoundTrip.Statement (.oraIndx z) := fun _ =>
  (rfl : opcodeMap 0x01 _ _ = some (Instr.oraIndx z))
theorem RoundTrip.oraIndy (z : Byte) : RoundTrip.Statement (.oraIndy z) := fun _ =>
  (rfl : opcodeMap 0x11 _ _ = some (Instr.oraIndy z))
theorem RoundTrip.oraZpi (z : Byte) : RoundTrip.Statement (.oraZpi z) := fun _ =>
  (rfl : opcodeMap 0x12 _ _ = some (Instr.oraZpi z))
theorem RoundTrip.eorImm (v : Byte) : RoundTrip.Statement (.eorImm v) := fun _ =>
  (rfl : opcodeMap 0x49 _ _ = some (Instr.eorImm v))
theorem RoundTrip.eorZp (z : Byte) : RoundTrip.Statement (.eorZp z) := fun _ =>
  (rfl : opcodeMap 0x45 _ _ = some (Instr.eorZp z))
theorem RoundTrip.eorZpx (z : Byte) : RoundTrip.Statement (.eorZpx z) := fun _ =>
  (rfl : opcodeMap 0x55 _ _ = some (Instr.eorZpx z))
theorem RoundTrip.eorAbs (a : Addr) : RoundTrip.Statement (.eorAbs a) := fun _ =>
  (rfl : opcodeMap 0x4D (lo8 a) (hi8 a) = some (.eorAbs (w16 (hi8 a) (lo8 a)))).trans (congrArg (fun a => some (Instr.eorAbs a)) (w16_hi_lo a))
theorem RoundTrip.eorAbsx (a : Addr) : RoundTrip.Statement (.eorAbsx a) := fun _ =>
  (rfl : opcodeMap 0x5D (lo8 a) (hi8 a) = some (.eorAbsx (w16 (hi8 a) (lo8 a)))).trans (congrArg (fun a => some (Instr.eorAbsx a)) (w16_hi_lo a))
theorem RoundTrip.eorAbsy (a : Addr) : RoundTrip.Statement (.eorAbsy a) := fun _ =>
  (rfl : opcodeMap 0x59 (lo8 a) (hi8 a) = some (.eorAbsy (w16 (hi8 a) (lo8 a)))).trans (congrArg (fun a => some (Instr.eorAbsy a)) (w16_hi_lo a))
theorem RoundTrip.eorIndx (z : Byte) : RoundTrip.Statement (.eorIndx z) := fun _ =>
  (rfl : opcodeMap 0x41 _ _ = some (Instr.eorIndx z))
theorem RoundTrip.eorIndy (z : Byte) : RoundTrip.Statement (.eorIndy z) := fun _ =>
  (rfl : opcodeMap 0x51 _ _ = some (Instr.eorIndy z))
theorem RoundTrip.eorZpi (z : Byte) : RoundTrip.Statement (.eorZpi z) := fun _ =>
  (rfl : opcodeMap 0x52 _ _ = some (Instr.eorZpi z))
theorem RoundTrip.bitImm (v : Byte) : RoundTrip.Statement (.bitImm v) := fun _ =>
  (rfl : opcodeMap 0x89 _ _ = some (Instr.bitImm v))
theorem RoundTrip.bitZp (z : Byte) : RoundTrip.Statement (.bitZp z) := fun _ =>
  (rfl : opcodeMap 0x24 _ _ = some (Instr.bitZp z))
theorem RoundTrip.bitZpx (z : Byte) : RoundTrip.Statement (.bitZpx z) := fun _ =>
  (rfl : opcodeMap 0x34 _ _ = some (Instr.bitZpx z))
theorem RoundTrip.bitAbs (a : Addr) : RoundTrip.Statement (.bitAbs a) := fun _ =>
  (rfl : opcodeMap 0x2C (lo8 a) (hi8 a) = some (.bitAbs (w16 (hi8 a) (lo8 a)))).trans (congrArg (fun a => some (Instr.bitAbs a)) (w16_hi_lo a))
theorem RoundTrip.bitAbsx (a : Addr) : RoundTrip.Statement (.bitAbsx a) := fun _ =>
  (rfl : opcodeMap 0x3C (lo8 a) (hi8 a) = some (.bitAbsx (w16 (hi8 a) (lo8 a)))).trans (congrArg (fun a => some (Instr.bitAbsx a)) (w16_hi_lo a))
theorem RoundTrip.aslAcc : RoundTrip.Statement (.aslAcc) := fun _ =>
  (rfl : opcodeMap 0x0A _ _ = some (Instr.aslAcc))
theorem RoundTrip.aslZp (z : Byte) : RoundTrip.Statement (.aslZp z) := fun _ =>
  (rfl : opcodeMap 0x06 _ _ = some (Instr.aslZp z))
theorem RoundTrip.aslZpx (z : Byte) : RoundTrip.Statement (.aslZpx z) := fun _ =>
  (rfl : opcodeMap 0x16 _ _ = some (Instr.aslZpx z))
theorem RoundTrip.aslAbs (a : Addr) : RoundTrip.Statement (.aslAbs a) := fun _ =>
  (rfl : opcodeMap 0x0E (lo8 a) (hi8 a) = some (.aslAbs (w16 (hi8 a) (lo8 a)))).trans (congrArg (fun a => some (Instr.aslAbs a)) (w16_hi_lo a))
theorem RoundTrip.aslAbsx (a : Addr) : RoundTrip.Statement (.aslAbsx a) := fun _ =>
  (rfl : opcodeMap 0x1E (lo8 a) (hi8 a) = some (.aslAbsx (w16 (hi8 a) (lo8 a)))).trans (congrArg (fun a => some (Instr.aslAbsx a)) (w16_hi_lo a))
theorem RoundTrip.lsrAcc : RoundTrip.Statement (.lsrAcc) := fun _ =>
  (rfl : opcodeMap 0x4A _ _ = some (Instr.lsrAcc))
theorem RoundTrip.lsrZp (z : Byte) : RoundTrip.Statement (.lsrZp z) := fun _ =>
  (rfl : opcodeMap 0x46 _ _ = some (Instr.lsrZp z))
theorem RoundTrip.lsrZpx (z : Byte) : RoundTrip.Statement (.lsrZpx z) := fun _ =>
  (rfl : opcodeMap 0x56 _ _ = some (Instr.lsrZpx z))
theorem RoundTrip.lsrAbs (a : Addr) : RoundTrip.Statement (.lsrAbs a) := fun _ =>
  (rfl : opcodeMap 0x4E (lo8 a) (hi8 a) = some (.lsrAbs (w16 (hi8 a) (lo8 a)))).trans (congrArg (fun a => some (Instr.lsrAbs a)) (w16_hi_lo a))
theorem RoundTrip.lsrAbsx (a : Addr) : RoundTrip.Statement (.lsrAbsx a) := fun _ =>
  (rfl : opcodeMap 0x5E (lo8 a) (hi8 a) = some (.lsrAbsx (w16 (hi8 a) (lo8 a)))).trans (congrArg (fun a => some (Instr.lsrAbsx a)) (w16_hi_lo a))
theorem RoundTrip.rolAcc : RoundTrip.Statement (.rolAcc) := fun _ =>
  (rfl : opcodeMap 0x2A _ _ = some (Instr.rolAcc))
theorem RoundTrip.rolZp (z : Byte) : RoundTrip.Statement (.rolZp z) := fun _ =>
  (rfl : opcodeMap 0x26 _ _ = some (Instr.rolZp z))
theorem RoundTrip.rolZpx (z : Byte) : RoundTrip.Statement (.rolZpx z) := fun _ =>
  (rfl : opcodeMap 0x36 _ _ = some (Instr.rolZpx z))
theorem RoundTrip.rolAbs (a : Addr) : RoundTrip.Statement (.rolAbs a) := fun _ =>
  (rfl : opcodeMap 0x2E (lo8 a) (hi8 a) = some (.rolAbs (w16 (hi8 a) (lo8 a)))).trans (congrArg (fun a => some (Instr.rolAbs a)) (w16_hi_lo a))
theorem RoundTrip.rolAbsx (a : Addr) : RoundTrip.Statement (.rolAbsx a) := fun _ =>
  (rfl : opcodeMap 0x3E (lo8 a) (hi8 a) = some (.rolAbsx (w16 (hi8 a) (lo8 a)))).trans (congrArg (fun a => some (Instr.rolAbsx a)) (w16_hi_lo a))
theorem RoundTrip.rorAcc : RoundTrip.Statement (.rorAcc) := fun _ =>
  (rfl : opcodeMap 0x6A _ _ = some (Instr.rorAcc))
theorem RoundTrip.rorZp (z : Byte) : RoundTrip.Statement (.rorZp z) := fun _ =>
  (rfl : opcodeMap 0x66 _ _ = some (Instr.rorZp z))
theorem RoundTrip.rorZpx (z : Byte) : RoundTrip.Statement (.rorZpx z) := fun _ =>
  (rfl : opcodeMap 0x76 _ _ = some (Instr.rorZpx z))
theorem RoundTrip.rorAbs (a : Addr) : RoundTrip.Statement (.rorAbs a) := fun _ =>
  (rfl : opcodeMap 0x6E (lo8 a) (hi8 a) = some (.rorAbs (w16 (hi8 a) (lo8 a)))).trans (congrArg (fun a => some (Instr.rorAbs a)) (w16_hi_lo a))
theorem RoundTrip.rorAbsx (a : Addr) : RoundTrip.Statement (.rorAbsx a) := fun _ =>
  (rfl : opcodeMap 0x7E (lo8 a) (hi8 a) = some (.rorAbsx (w16 (hi8 a) (lo8 a)))).trans (congrArg (fun a => some (Instr.rorAbsx a)) (w16_hi_lo a))
theorem RoundTrip.trbZp (z : Byte) : RoundTrip.Statement (.trbZp z) := fun _ =>
  (rfl : opcodeMap 0x14 _ _ = some (Instr.trbZp z))
theorem RoundTrip.trbAbs (a : Addr) : RoundTrip.Statement (.trbAbs a) := fun _ =>
  (rfl : opcodeMap 0x1C (lo8 a) (hi8 a) = some (.trbAbs (w16 (hi8 a) (lo8 a)))).trans (congrArg (fun a => some (Instr.trbAbs a)) (w16_hi_lo a))
theorem RoundTrip.tsbZp (z : Byte) : RoundTrip.Statement (.tsbZp z) := fun _ =>
  (rfl : opcodeMap 0x04 _ _ = some (Instr.tsbZp z))
theorem RoundTrip.tsbAbs (a : Addr) : RoundTrip.Statement (.tsbAbs a) := fun _ =>
  (rfl : opcodeMap 0x0C (lo8 a) (hi8 a) = some (.tsbAbs (w16 (hi8 a) (lo8 a)))).trans (congrArg (fun a => some (Instr.tsbAbs a)) (w16_hi_lo a))
theorem RoundTrip.rmb0 (z : Byte) : RoundTrip.Statement (.rmb0 z) := fun _ =>
  (rfl : opcodeMap 0x07 _ _ = some (Instr.rmb0 z))
theorem RoundTrip.rmb1 (z : Byte) : RoundTrip.Statement (.rmb1 z) := fun _ =>
  (rfl : opcodeMap 0x17 _ _ = some (Instr.rmb1 z))
theorem RoundTrip.rmb2 (z : Byte) : RoundTrip.Statement (.rmb2 z) := fun _ =>
  (rfl : opcodeMap 0x27 _ _ = some (Instr.rmb2 z))
theorem RoundTrip.rmb3 (z : Byte) : RoundTrip.Statement (.rmb3 z) := fun _ =>
  (rfl : opcodeMap 0x37 _ _ = some (Instr.rmb3 z))
theorem RoundTrip.rmb4 (z : Byte) : RoundTrip.Statement (.rmb4 z) := fun _ =>
  (rfl : opcodeMap 0x47 _ _ = some (Instr.rmb4 z))
theorem RoundTrip.rmb5 (z : Byte) : RoundTrip.Statement (.rmb5 z) := fun _ =>
  (rfl : opcodeMap 0x57 _ _ = some (Instr.rmb5 z))
theorem RoundTrip.rmb6 (z : Byte) : RoundTrip.Statement (.rmb6 z) := fun _ =>
  (rfl : opcodeMap 0x67 _ _ = some (Instr.rmb6 z))
theorem RoundTrip.rmb7 (z : Byte) : RoundTrip.Statement (.rmb7 z) := fun _ =>
  (rfl : opcodeMap 0x77 _ _ = some (Instr.rmb7 z))
theorem RoundTrip.smb0 (z : Byte) : RoundTrip.Statement (.smb0 z) := fun _ =>
  (rfl : opcodeMap 0x87 _ _ = some (Instr.smb0 z))
theorem RoundTrip.smb1 (z : Byte) : RoundTrip.Statement (.smb1 z) := fun _ =>
  (rfl : opcodeMap 0x97 _ _ = some (Instr.smb1 z))
theorem RoundTrip.smb2 (z : Byte) : RoundTrip.Statement (.smb2 z) := fun _ =>
  (rfl : opcodeMap 0xA7 _ _ = some (Instr.smb2 z))
theorem RoundTrip.smb3 (z : Byte) : RoundTrip.Statement (.smb3 z) := fun _ =>
  (rfl : opcodeMap 0xB7 _ _ = some (Instr.smb3 z))
theorem RoundTrip.smb4 (z : Byte) : RoundTrip.Statement (.smb4 z) := fun _ =>
  (rfl : opcodeMap 0xC7 _ _ = some (Instr.smb4 z))
theorem RoundTrip.smb5 (z : Byte) : RoundTrip.Statement (.smb5 z) := fun _ =>
  (rfl : opcodeMap 0xD7 _ _ = some (Instr.smb5 z))
theorem RoundTrip.smb6 (z : Byte) : RoundTrip.Statement (.smb6 z) := fun _ =>
  (rfl : opcodeMap 0xE7 _ _ = some (Instr.smb6 z))
theorem RoundTrip.smb7 (z : Byte) : RoundTrip.Statement (.smb7 z) := fun _ =>
  (rfl : opcodeMap 0xF7 _ _ = some (Instr.smb7 z))
theorem RoundTrip.bpl (r : Byte) : RoundTrip.Statement (.bpl r) := fun _ =>
  (rfl : opcodeMap 0x10 _ _ = some (Instr.bpl r))
theorem RoundTrip.bmi (r : Byte) : RoundTrip.Statement (.bmi r) := fun _ =>
  (rfl : opcodeMap 0x30 _ _ = some (Instr.bmi r))
theorem RoundTrip.bvc (r : Byte) : RoundTrip.Statement (.bvc r) := fun _ =>
  (rfl : opcodeMap 0x50 _ _ = some (Instr.bvc r))
theorem RoundTrip.bvs (r : Byte) : RoundTrip.Statement (.bvs r) := fun _ =>
  (rfl : opcodeMap 0x70 _ _ = some (Instr.bvs r))
theorem RoundTrip.bcc (r : Byte) : RoundTrip.Statement (.bcc r) := fun _ =>
  (rfl : opcodeMap 0x90 _ _ = some (Instr.bcc r))
theorem RoundTrip.bcs (r : Byte) : RoundTrip.Statement (.bcs r) := fun _ =>
  (rfl : opcodeMap 0xB0 _ _ = some (Instr.bcs r))
theorem RoundTrip.bne (r : Byte) : RoundTrip.Statement (.bne r) := fun _ =>
  (rfl : opcodeMap 0xD0 _ _ = some (Instr.bne r))
theorem RoundTrip.beq (r : Byte) : RoundTrip.Statement (.beq r) := fun _ =>
  (rfl : opcodeMap 0xF0 _ _ = some (Instr.beq r))
theorem RoundTrip.bra (r : Byte) : RoundTrip.Statement (.bra r) := fun _ =>
  (rfl : opcodeMap 0x80 _ _ = some (Instr.bra r))
theorem RoundTrip.bbr0 (z r : Byte) : RoundTrip.Statement (.bbr0 z r) := fun _ =>
  (rfl : opcodeMap 0x0F _ _ = some (Instr.bbr0 z r))
theorem RoundTrip.bbr1 (z r : Byte) : RoundTrip.Statement (.bbr1 z r) := fun _ =>
  (rfl : opcodeMap 0x1F _ _ = some (Instr.bbr1 z r))
theorem RoundTrip.bbr2 (z r : Byte) : RoundTrip.Statement (.bbr2 z r) := fun _ =>
  (rfl : opcodeMap 0x2F _ _ = some (Instr.bbr2 z r))
theorem RoundTrip.bbr3 (z r : Byte) : RoundTrip.Statement (.bbr3 z r) := fun _ =>
  (rfl : opcodeMap 0x3F _ _ = some (Instr.bbr3 z r))
theorem RoundTrip.bbr4 (z r : Byte) : RoundTrip.Statement (.bbr4 z r) := fun _ =>
  (rfl : opcodeMap 0x4F _ _ = some (Instr.bbr4 z r))
theorem RoundTrip.bbr5 (z r : Byte) : RoundTrip.Statement (.bbr5 z r) := fun _ =>
  (rfl : opcodeMap 0x5F _ _ = some (Instr.bbr5 z r))
theorem RoundTrip.bbr6 (z r : Byte) : RoundTrip.Statement (.bbr6 z r) := fun _ =>
  (rfl : opcodeMap 0x6F _ _ = some (Instr.bbr6 z r))
theorem RoundTrip.bbr7 (z r : Byte) : RoundTrip.Statement (.bbr7 z r) := fun _ =>
  (rfl : opcodeMap 0x7F _ _ = some (Instr.bbr7 z r))
theorem RoundTrip.bbs0 (z r : Byte) : RoundTrip.Statement (.bbs0 z r) := fun _ =>
  (rfl : opcodeMap 0x8F _ _ = some (Instr.bbs0 z r))
theorem RoundTrip.bbs1 (z r : Byte) : RoundTrip.Statement (.bbs1 z r) := fun _ =>
  (rfl : opcodeMap 0x9F _ _ = some (Instr.bbs1 z r))
theorem RoundTrip.bbs2 (z r : Byte) : RoundTrip.Statement (.bbs2 z r) := fun _ =>
  (rfl : opcodeMap 0xAF _ _ = some (Instr.bbs2 z r))
theorem RoundTrip.bbs3 (z r : Byte) : RoundTrip.Statement (.bbs3 z r) := fun _ =>
  (rfl : opcodeMap 0xBF _ _ = some (Instr.bbs3 z r))
theorem RoundTrip.bbs4 (z r : Byte) : RoundTrip.Statement (.bbs4 z r) := fun _ =>
  (rfl : opcodeMap 0xCF _ _ = some (Instr.bbs4 z r))
theorem RoundTrip.bbs5 (z r : Byte) : RoundTrip.Statement (.bbs5 z r) := fun _ =>
  (rfl : opcodeMap 0xDF _ _ = some (Instr.bbs5 z r))
theorem RoundTrip.bbs6 (z r : Byte) : RoundTrip.Statement (.bbs6 z r) := fun _ =>
  (rfl : opcodeMap 0xEF _ _ = some (Instr.bbs6 z r))
theorem RoundTrip.bbs7 (z r : Byte) : RoundTrip.Statement (.bbs7 z r) := fun _ =>
  (rfl : opcodeMap 0xFF _ _ = some (Instr.bbs7 z r))
theorem RoundTrip.jmpAbs (a : Addr) : RoundTrip.Statement (.jmpAbs a) := fun _ =>
  (rfl : opcodeMap 0x4C (lo8 a) (hi8 a) = some (.jmpAbs (w16 (hi8 a) (lo8 a)))).trans (congrArg (fun a => some (Instr.jmpAbs a)) (w16_hi_lo a))
theorem RoundTrip.jmpInd (a : Addr) : RoundTrip.Statement (.jmpInd a) := fun _ =>
  (rfl : opcodeMap 0x6C (lo8 a) (hi8 a) = some (.jmpInd (w16 (hi8 a) (lo8 a)))).trans (congrArg (fun a => some (Instr.jmpInd a)) (w16_hi_lo a))
theorem RoundTrip.jmpAix (a : Addr) : RoundTrip.Statement (.jmpAix a) := fun _ =>
  (rfl : opcodeMap 0x7C (lo8 a) (hi8 a) = some (.jmpAix (w16 (hi8 a) (lo8 a)))).trans (congrArg (fun a => some (Instr.jmpAix a)) (w16_hi_lo a))
theorem RoundTrip.jsr (a : Addr) : RoundTrip.Statement (.jsr a) := fun _ =>
  (rfl : opcodeMap 0x20 (lo8 a) (hi8 a) = some (.jsr (w16 (hi8 a) (lo8 a)))).trans (congrArg (fun a => some (Instr.jsr a)) (w16_hi_lo a))
theorem RoundTrip.rts : RoundTrip.Statement (.rts) := fun _ =>
  (rfl : opcodeMap 0x60 _ _ = some (Instr.rts))
theorem RoundTrip.rti : RoundTrip.Statement (.rti) := fun _ =>
  (rfl : opcodeMap 0x40 _ _ = some (Instr.rti))
theorem RoundTrip.brk : RoundTrip.Statement (.brk) := fun _ =>
  (rfl : opcodeMap 0x00 _ _ = some (Instr.brk))
theorem RoundTrip.nop : RoundTrip.Statement (.nop) := fun _ =>
  (rfl : opcodeMap 0xEA _ _ = some (Instr.nop))
theorem RoundTrip.pha : RoundTrip.Statement (.pha) := fun _ =>
  (rfl : opcodeMap 0x48 _ _ = some (Instr.pha))
theorem RoundTrip.php : RoundTrip.Statement (.php) := fun _ =>
  (rfl : opcodeMap 0x08 _ _ = some (Instr.php))
theorem RoundTrip.pla : RoundTrip.Statement (.pla) := fun _ =>
  (rfl : opcodeMap 0x68 _ _ = some (Instr.pla))
theorem RoundTrip.plp : RoundTrip.Statement (.plp) := fun _ =>
  (rfl : opcodeMap 0x28 _ _ = some (Instr.plp))
theorem RoundTrip.phx : RoundTrip.Statement (.phx) := fun _ =>
  (rfl : opcodeMap 0xDA _ _ = some (Instr.phx))
theorem RoundTrip.phy : RoundTrip.Statement (.phy) := fun _ =>
  (rfl : opcodeMap 0x5A _ _ = some (Instr.phy))
theorem RoundTrip.plx : RoundTrip.Statement (.plx) := fun _ =>
  (rfl : opcodeMap 0xFA _ _ = some (Instr.plx))
theorem RoundTrip.ply : RoundTrip.Statement (.ply) := fun _ =>
  (rfl : opcodeMap 0x7A _ _ = some (Instr.ply))
theorem RoundTrip.clc : RoundTrip.Statement (.clc) := fun _ =>
  (rfl : opcodeMap 0x18 _ _ = some (Instr.clc))
theorem RoundTrip.cld : RoundTrip.Statement (.cld) := fun _ =>
  (rfl : opcodeMap 0xD8 _ _ = some (Instr.cld))
theorem RoundTrip.cli : RoundTrip.Statement (.cli) := fun _ =>
  (rfl : opcodeMap 0x58 _ _ = some (Instr.cli))
theorem RoundTrip.clv : RoundTrip.Statement (.clv) := fun _ =>
  (rfl : opcodeMap 0xB8 _ _ = some (Instr.clv))
theorem RoundTrip.sec : RoundTrip.Statement (.sec) := fun _ =>
  (rfl : opcodeMap 0x38 _ _ = some (Instr.sec))
theorem RoundTrip.sed : RoundTrip.Statement (.sed) := fun _ =>
  (rfl : opcodeMap 0xF8 _ _ = some (Instr.sed))
theorem RoundTrip.sei : RoundTrip.Statement (.sei) := fun _ =>
  (rfl : opcodeMap 0x78 _ _ = some (Instr.sei))

end Laws
end Sys2Proof
end

