-- ==== Sys2Proof/Laws/Safety.lean ====
section
/-! SUPPORT. What `State.stored` (Safety.lean) says of a store of the model, and that it depends on no register. -/

namespace Sys2Proof.Machine

/-- A store of the model is `stored`: its fault, if any, and its state. -/
theorem memWrite_eq_stored (a : Addr) (v : Byte) (s : State) :
    memWrite a v s =
      match (s.stored a v).1 with
      | some f => .error f (s.stored a v).2
      | none => .ok () (s.stored a v).2 := by
  unfold memWrite State.stored
  cases s.sinkAt a with
  | some sink =>
    simp only [sinkWrite]
    cases (Config.sinkEffect s.draws).fails <;> rfl
  | none =>
    simp only [backendStore]
    cases s.resolve a <;> rfl

/-- A push is `stored` at the top of the stack, and then SP falls (R182). -/
theorem push_eq_stored (v : Byte) (s : State) :
    push v s =
      match (s.stored (stackAddr s.sp) v).1 with
      | some f => .error f (s.stored (stackAddr s.sp) v).2
      | none => .ok () ((s.stored (stackAddr s.sp) v).2.setSp ((s.stored (stackAddr s.sp) v).2.sp - 1)) := by
  unfold push
  rw [Run.get_bind]
  have h := memWrite_eq_stored (stackAddr s.sp) v s
  cases hf : (s.stored (stackAddr s.sp) v).1 with
  | some f => rw [hf] at h; rw [Run.bind_error h]
  | none => rw [hf] at h; rw [Run.bind_ok h]; rfl

/-- What a sink does to memory and to the sink port does not depend on SP or PC. -/
theorem State.sinkAccess_setPc (s : State) (acc : SinkAccess) (pc : Addr) :
    (s.setPc pc).sinkAccess acc = (s.sinkAccess acc).setPc pc := by
  cases acc with
  | load a | store a v =>
    simp only [State.sinkAccess, State.resolve_setPc]
    cases s.resolve a <;> rfl
  | handOn k a v => rfl

theorem State.sinkAccess_setSp (s : State) (acc : SinkAccess) (sp : Byte) :
    (s.setSp sp).sinkAccess acc = (s.sinkAccess acc).setSp sp := by
  cases acc with
  | load a | store a v =>
    simp only [State.sinkAccess, State.resolve_setSp]
    cases s.resolve a <;> rfl
  | handOn k a v => rfl

theorem State.sinkAccesses_setPc (l : List SinkAccess) (s : State) (pc : Addr) :
    l.foldl State.sinkAccess (s.setPc pc) = (l.foldl State.sinkAccess s).setPc pc := by
  induction l generalizing s with
  | nil => rfl
  | cons acc l ih => simp only [List.foldl_cons, State.sinkAccess_setPc, ih]

theorem State.sinkAccesses_setSp (l : List SinkAccess) (s : State) (sp : Byte) :
    l.foldl State.sinkAccess (s.setSp sp) = (l.foldl State.sinkAccess s).setSp sp := by
  induction l generalizing s with
  | nil => rfl
  | cons acc l ih => simp only [List.foldl_cons, State.sinkAccess_setSp, ih]

/-- PC plays no part in a store. -/
theorem State.stored_setPc (s : State) (a : Addr) (v : Byte) (pc : Addr) :
    (s.setPc pc).stored a v = ((s.stored a v).1, (s.stored a v).2.setPc pc) := by
  unfold State.stored
  rw [show (s.setPc pc).sinkAt a = s.sinkAt a from rfl, State.resolve_setPc]
  cases s.sinkAt a with
  | some sink =>
    exact Prod.ext rfl (State.sinkAccesses_setPc (Config.sinkEffect s.draws).accesses
      { s with draws := s.draws + 1, sinkCalls := s.sinkCalls ++ [.write sink a v] } pc)
  | none => cases s.resolve a <;> rfl

/-- SP plays no part in a store. -/
theorem State.stored_setSp (s : State) (a : Addr) (v sp : Byte) :
    (s.setSp sp).stored a v = ((s.stored a v).1, (s.stored a v).2.setSp sp) := by
  unfold State.stored
  rw [show (s.setSp sp).sinkAt a = s.sinkAt a from rfl, State.resolve_setSp]
  cases s.sinkAt a with
  | some sink =>
    exact Prod.ext rfl (State.sinkAccesses_setSp (Config.sinkEffect s.draws).accesses
      { s with draws := s.draws + 1, sinkCalls := s.sinkCalls ++ [.write sink a v] } sp)
  | none => cases s.resolve a <;> rfl

end Sys2Proof.Machine
end

