-- ==== Sys2Proof/Tests/Slice0.lean ====
section
/-! SUPPORT. Tests. Expected results come from the spec: the opcode map of 30_encoding.md R147 for decoding, the vectors of
95_test_vectors.md (named in each docstring) for steps, memory, host commands and statistics. After them, for every
statement of Certificates/Slice0/Obligations.lean that has hypotheses, a witness that meets them, clause by clause. -/

namespace Sys2Proof.Tests

open Machine

set_option Elab.async false

/-! ## Well-formedness (30_encoding.md R146) -/

/-- Each check of `WellFormed`: an instruction of `CMOS65C02` alone is ill-formed on `NMOS6502` and well-formed on its own
model, and one of both is well-formed on both. -/
theorem test_wellformed_model :
    WellFormed .nmos6502 (.stzZp 0x10) = false ∧ WellFormed .nmos6502 .incAcc = false ∧
    WellFormed .nmos6502 (.bbs7 0x10 0x03) = false ∧ WellFormed .nmos6502 (.jmpAix 0x3000) = false ∧
    WellFormed .cmos65c02 (.stzZp 0x10) = true ∧ WellFormed .cmos65c02 .incAcc = true ∧
    WellFormed .nmos6502 (.jmpInd 0x30FF) = true ∧ WellFormed .cmos65c02 (.jmpInd 0x30FF) = true := by decide

/-! ## Decoding, one theorem for each row of the opcode map (R147): the bytes, the instruction, and whether the map marks it
as present on `CMOS65C02` only. Operand bytes are 0x34 and, for a second one, 0x12 (R142: low byte first). -/

/-- Both models decode the word as the map says. -/
def decodesAs (e : List Byte × Instr × Bool) : Bool :=
  decide (decode .cmos65c02 e.1 = .ok (e.2.1, [])) &&
    decide (decode .nmos6502 e.1 = if e.2.2 then .error (.illegalOpcode (e.1.headD 0)) else .ok (e.2.1, []))

/-- Row 0x. -/
theorem test_decode_row0 : ∀ e ∈ ([
    ([0x00], .brk, false), ([0x01, 0x34], .oraIndx 0x34, false), ([0x04, 0x34], .tsbZp 0x34, true),
    ([0x05, 0x34], .oraZp 0x34, false), ([0x06, 0x34], .aslZp 0x34, false), ([0x07, 0x34], .rmb0 0x34, true),
    ([0x08], .php, false), ([0x09, 0x34], .oraImm 0x34, false), ([0x0A], .aslAcc, false),
    ([0x0C, 0x34, 0x12], .tsbAbs 0x1234, true), ([0x0D, 0x34, 0x12], .oraAbs 0x1234, false),
    ([0x0E, 0x34, 0x12], .aslAbs 0x1234, false), ([0x0F, 0x34, 0x12], .bbr0 0x34 0x12, true)]
      : List (List Byte × Instr × Bool)), decodesAs e := by
  decide +kernel

/-- Row 1x. -/
theorem test_decode_row1 : ∀ e ∈ ([
    ([0x10, 0x34], .bpl 0x34, false), ([0x11, 0x34], .oraIndy 0x34, false), ([0x12, 0x34], .oraZpi 0x34, true),
    ([0x14, 0x34], .trbZp 0x34, true), ([0x15, 0x34], .oraZpx 0x34, false), ([0x16, 0x34], .aslZpx 0x34, false),
    ([0x17, 0x34], .rmb1 0x34, true), ([0x18], .clc, false), ([0x19, 0x34, 0x12], .oraAbsy 0x1234, false),
    ([0x1A], .incAcc, true), ([0x1C, 0x34, 0x12], .trbAbs 0x1234, true),
    ([0x1D, 0x34, 0x12], .oraAbsx 0x1234, false), ([0x1E, 0x34, 0x12], .aslAbsx 0x1234, false),
    ([0x1F, 0x34, 0x12], .bbr1 0x34 0x12, true)]
      : List (List Byte × Instr × Bool)), decodesAs e := by
  decide +kernel

/-- Row 2x. -/
theorem test_decode_row2 : ∀ e ∈ ([
    ([0x20, 0x34, 0x12], .jsr 0x1234, false), ([0x21, 0x34], .andIndx 0x34, false),
    ([0x24, 0x34], .bitZp 0x34, false), ([0x25, 0x34], .andZp 0x34, false), ([0x26, 0x34], .rolZp 0x34, false),
    ([0x27, 0x34], .rmb2 0x34, true), ([0x28], .plp, false), ([0x29, 0x34], .andImm 0x34, false),
    ([0x2A], .rolAcc, false), ([0x2C, 0x34, 0x12], .bitAbs 0x1234, false),
    ([0x2D, 0x34, 0x12], .andAbs 0x1234, false), ([0x2E, 0x34, 0x12], .rolAbs 0x1234, false),
    ([0x2F, 0x34, 0x12], .bbr2 0x34 0x12, true)]
      : List (List Byte × Instr × Bool)), decodesAs e := by
  decide +kernel

/-- Row 3x. -/
theorem test_decode_row3 : ∀ e ∈ ([
    ([0x30, 0x34], .bmi 0x34, false), ([0x31, 0x34], .andIndy 0x34, false), ([0x32, 0x34], .andZpi 0x34, true),
    ([0x34, 0x34], .bitZpx 0x34, true), ([0x35, 0x34], .andZpx 0x34, false), ([0x36, 0x34], .rolZpx 0x34, false),
    ([0x37, 0x34], .rmb3 0x34, true), ([0x38], .sec, false), ([0x39, 0x34, 0x12], .andAbsy 0x1234, false),
    ([0x3A], .decAcc, true), ([0x3C, 0x34, 0x12], .bitAbsx 0x1234, true),
    ([0x3D, 0x34, 0x12], .andAbsx 0x1234, false), ([0x3E, 0x34, 0x12], .rolAbsx 0x1234, false),
    ([0x3F, 0x34, 0x12], .bbr3 0x34 0x12, true)]
      : List (List Byte × Instr × Bool)), decodesAs e := by
  decide +kernel

/-- Row 4x. -/
theorem test_decode_row4 : ∀ e ∈ ([
    ([0x40], .rti, false), ([0x41, 0x34], .eorIndx 0x34, false), ([0x45, 0x34], .eorZp 0x34, false),
    ([0x46, 0x34], .lsrZp 0x34, false), ([0x47, 0x34], .rmb4 0x34, true), ([0x48], .pha, false),
    ([0x49, 0x34], .eorImm 0x34, false), ([0x4A], .lsrAcc, false), ([0x4C, 0x34, 0x12], .jmpAbs 0x1234, false),
    ([0x4D, 0x34, 0x12], .eorAbs 0x1234, false), ([0x4E, 0x34, 0x12], .lsrAbs 0x1234, false),
    ([0x4F, 0x34, 0x12], .bbr4 0x34 0x12, true)]
      : List (List Byte × Instr × Bool)), decodesAs e := by
  decide +kernel

/-- Row 5x. -/
theorem test_decode_row5 : ∀ e ∈ ([
    ([0x50, 0x34], .bvc 0x34, false), ([0x51, 0x34], .eorIndy 0x34, false), ([0x52, 0x34], .eorZpi 0x34, true),
    ([0x55, 0x34], .eorZpx 0x34, false), ([0x56, 0x34], .lsrZpx 0x34, false), ([0x57, 0x34], .rmb5 0x34, true),
    ([0x58], .cli, false), ([0x59, 0x34, 0x12], .eorAbsy 0x1234, false), ([0x5A], .phy, true),
    ([0x5D, 0x34, 0x12], .eorAbsx 0x1234, false), ([0x5E, 0x34, 0x12], .lsrAbsx 0x1234, false),
    ([0x5F, 0x34, 0x12], .bbr5 0x34 0x12, true)]
      : List (List Byte × Instr × Bool)), decodesAs e := by
  decide +kernel

/-- Row 6x. -/
theorem test_decode_row6 : ∀ e ∈ ([
    ([0x60], .rts, false), ([0x61, 0x34], .adcIndx 0x34, false), ([0x64, 0x34], .stzZp 0x34, true),
    ([0x65, 0x34], .adcZp 0x34, false), ([0x66, 0x34], .rorZp 0x34, false), ([0x67, 0x34], .rmb6 0x34, true),
    ([0x68], .pla, false), ([0x69, 0x34], .adcImm 0x34, false), ([0x6A], .rorAcc, false),
    ([0x6C, 0x34, 0x12], .jmpInd 0x1234, false), ([0x6D, 0x34, 0x12], .adcAbs 0x1234, false),
    ([0x6E, 0x34, 0x12], .rorAbs 0x1234, false), ([0x6F, 0x34, 0x12], .bbr6 0x34 0x12, true)]
      : List (List Byte × Instr × Bool)), decodesAs e := by
  decide +kernel

/-- Row 7x. -/
theorem test_decode_row7 : ∀ e ∈ ([
    ([0x70, 0x34], .bvs 0x34, false), ([0x71, 0x34], .adcIndy 0x34, false), ([0x72, 0x34], .adcZpi 0x34, true),
    ([0x74, 0x34], .stzZpx 0x34, true), ([0x75, 0x34], .adcZpx 0x34, false), ([0x76, 0x34], .rorZpx 0x34, false),
    ([0x77, 0x34], .rmb7 0x34, true), ([0x78], .sei, false), ([0x79, 0x34, 0x12], .adcAbsy 0x1234, false),
    ([0x7A], .ply, true), ([0x7C, 0x34, 0x12], .jmpAix 0x1234, true), ([0x7D, 0x34, 0x12], .adcAbsx 0x1234, false),
    ([0x7E, 0x34, 0x12], .rorAbsx 0x1234, false), ([0x7F, 0x34, 0x12], .bbr7 0x34 0x12, true)]
      : List (List Byte × Instr × Bool)), decodesAs e := by
  decide +kernel

/-- Row 8x. -/
theorem test_decode_row8 : ∀ e ∈ ([
    ([0x80, 0x34], .bra 0x34, true), ([0x81, 0x34], .staIndx 0x34, false), ([0x84, 0x34], .styZp 0x34, false),
    ([0x85, 0x34], .staZp 0x34, false), ([0x86, 0x34], .stxZp 0x34, false), ([0x87, 0x34], .smb0 0x34, true),
    ([0x88], .dey, false), ([0x89, 0x34], .bitImm 0x34, true), ([0x8A], .txa, false),
    ([0x8C, 0x34, 0x12], .styAbs 0x1234, false), ([0x8D, 0x34, 0x12], .staAbs 0x1234, false),
    ([0x8E, 0x34, 0x12], .stxAbs 0x1234, false), ([0x8F, 0x34, 0x12], .bbs0 0x34 0x12, true)]
      : List (List Byte × Instr × Bool)), decodesAs e := by
  decide +kernel

/-- Row 9x. -/
theorem test_decode_row9 : ∀ e ∈ ([
    ([0x90, 0x34], .bcc 0x34, false), ([0x91, 0x34], .staIndy 0x34, false), ([0x92, 0x34], .staZpi 0x34, true),
    ([0x94, 0x34], .styZpx 0x34, false), ([0x95, 0x34], .staZpx 0x34, false), ([0x96, 0x34], .stxZpy 0x34, false),
    ([0x97, 0x34], .smb1 0x34, true), ([0x98], .tya, false), ([0x99, 0x34, 0x12], .staAbsy 0x1234, false),
    ([0x9A], .txs, false), ([0x9C, 0x34, 0x12], .stzAbs 0x1234, true), ([0x9D, 0x34, 0x12], .staAbsx 0x1234, false),
    ([0x9E, 0x34, 0x12], .stzAbsx 0x1234, true), ([0x9F, 0x34, 0x12], .bbs1 0x34 0x12, true)]
      : List (List Byte × Instr × Bool)), decodesAs e := by
  decide +kernel

/-- Row Ax. -/
theorem test_decode_rowA : ∀ e ∈ ([
    ([0xA0, 0x34], .ldyImm 0x34, false), ([0xA1, 0x34], .ldaIndx 0x34, false), ([0xA2, 0x34], .ldxImm 0x34, false),
    ([0xA4, 0x34], .ldyZp 0x34, false), ([0xA5, 0x34], .ldaZp 0x34, false), ([0xA6, 0x34], .ldxZp 0x34, false),
    ([0xA7, 0x34], .smb2 0x34, true), ([0xA8], .tay, false), ([0xA9, 0x34], .ldaImm 0x34, false),
    ([0xAA], .tax, false), ([0xAC, 0x34, 0x12], .ldyAbs 0x1234, false), ([0xAD, 0x34, 0x12], .ldaAbs 0x1234, false),
    ([0xAE, 0x34, 0x12], .ldxAbs 0x1234, false), ([0xAF, 0x34, 0x12], .bbs2 0x34 0x12, true)]
      : List (List Byte × Instr × Bool)), decodesAs e := by
  decide +kernel

/-- Row Bx. -/
theorem test_decode_rowB : ∀ e ∈ ([
    ([0xB0, 0x34], .bcs 0x34, false), ([0xB1, 0x34], .ldaIndy 0x34, false), ([0xB2, 0x34], .ldaZpi 0x34, true),
    ([0xB4, 0x34], .ldyZpx 0x34, false), ([0xB5, 0x34], .ldaZpx 0x34, false), ([0xB6, 0x34], .ldxZpy 0x34, false),
    ([0xB7, 0x34], .smb3 0x34, true), ([0xB8], .clv, false), ([0xB9, 0x34, 0x12], .ldaAbsy 0x1234, false),
    ([0xBA], .tsx, false), ([0xBC, 0x34, 0x12], .ldyAbsx 0x1234, false),
    ([0xBD, 0x34, 0x12], .ldaAbsx 0x1234, false), ([0xBE, 0x34, 0x12], .ldxAbsy 0x1234, false),
    ([0xBF, 0x34, 0x12], .bbs3 0x34 0x12, true)]
      : List (List Byte × Instr × Bool)), decodesAs e := by
  decide +kernel

/-- Row Cx. -/
theorem test_decode_rowC : ∀ e ∈ ([
    ([0xC0, 0x34], .cpyImm 0x34, false), ([0xC1, 0x34], .cmpIndx 0x34, false), ([0xC4, 0x34], .cpyZp 0x34, false),
    ([0xC5, 0x34], .cmpZp 0x34, false), ([0xC6, 0x34], .decZp 0x34, false), ([0xC7, 0x34], .smb4 0x34, true),
    ([0xC8], .iny, false), ([0xC9, 0x34], .cmpImm 0x34, false), ([0xCA], .dex, false),
    ([0xCC, 0x34, 0x12], .cpyAbs 0x1234, false), ([0xCD, 0x34, 0x12], .cmpAbs 0x1234, false),
    ([0xCE, 0x34, 0x12], .decAbs 0x1234, false), ([0xCF, 0x34, 0x12], .bbs4 0x34 0x12, true)]
      : List (List Byte × Instr × Bool)), decodesAs e := by
  decide +kernel

/-- Row Dx. -/
theorem test_decode_rowD : ∀ e ∈ ([
    ([0xD0, 0x34], .bne 0x34, false), ([0xD1, 0x34], .cmpIndy 0x34, false), ([0xD2, 0x34], .cmpZpi 0x34, true),
    ([0xD5, 0x34], .cmpZpx 0x34, false), ([0xD6, 0x34], .decZpx 0x34, false), ([0xD7, 0x34], .smb5 0x34, true),
    ([0xD8], .cld, false), ([0xD9, 0x34, 0x12], .cmpAbsy 0x1234, false), ([0xDA], .phx, true),
    ([0xDD, 0x34, 0x12], .cmpAbsx 0x1234, false), ([0xDE, 0x34, 0x12], .decAbsx 0x1234, false),
    ([0xDF, 0x34, 0x12], .bbs5 0x34 0x12, true)]
      : List (List Byte × Instr × Bool)), decodesAs e := by
  decide +kernel

/-- Row Ex. -/
theorem test_decode_rowE : ∀ e ∈ ([
    ([0xE0, 0x34], .cpxImm 0x34, false), ([0xE1, 0x34], .sbcIndx 0x34, false), ([0xE4, 0x34], .cpxZp 0x34, false),
    ([0xE5, 0x34], .sbcZp 0x34, false), ([0xE6, 0x34], .incZp 0x34, false), ([0xE7, 0x34], .smb6 0x34, true),
    ([0xE8], .inx, false), ([0xE9, 0x34], .sbcImm 0x34, false), ([0xEA], .nop, false),
    ([0xEC, 0x34, 0x12], .cpxAbs 0x1234, false), ([0xED, 0x34, 0x12], .sbcAbs 0x1234, false),
    ([0xEE, 0x34, 0x12], .incAbs 0x1234, false), ([0xEF, 0x34, 0x12], .bbs6 0x34 0x12, true)]
      : List (List Byte × Instr × Bool)), decodesAs e := by
  decide +kernel

/-- Row Fx. -/
theorem test_decode_rowF : ∀ e ∈ ([
    ([0xF0, 0x34], .beq 0x34, false), ([0xF1, 0x34], .sbcIndy 0x34, false), ([0xF2, 0x34], .sbcZpi 0x34, true),
    ([0xF5, 0x34], .sbcZpx 0x34, false), ([0xF6, 0x34], .incZpx 0x34, false), ([0xF7, 0x34], .smb7 0x34, true),
    ([0xF8], .sed, false), ([0xF9, 0x34, 0x12], .sbcAbsy 0x1234, false), ([0xFA], .plx, true),
    ([0xFD, 0x34, 0x12], .sbcAbsx 0x1234, false), ([0xFE, 0x34, 0x12], .incAbsx 0x1234, false),
    ([0xFF, 0x34, 0x12], .bbs7 0x34 0x12, true)]
      : List (List Byte × Instr × Bool)), decodesAs e := by
  decide +kernel

/-- R148, R140: an illegal opcode, bytes that end early, and no byte. -/
theorem test_decode_errors :
    decode .cmos65c02 [0xCB, 0x00, 0x00] = .error (.illegalOpcode 0xCB) ∧
    decode .cmos65c02 [0x8D, 0x00] = .error (.truncated 0x8D) ∧ decode .cmos65c02 [] = .error .noBytes ∧
    decodeTableWord 8 0xA9 = some (.ldaImm 0x00) ∧ decodeTableWord 24 0x03108F = some (.bbs0 0x10 0x03) := by
  decide +kernel

/-! ## Single steps (95_test_vectors.md sections 2 to 7) -/

/-- The start of section 0: model `m`, a run in progress with `code` at `pc`, every register and byte 0 and SP 0xFF but for
what a vector names. -/
def start (m : CpuModel) (pc : Addr) (code : List Byte) (cells : List (Addr × Byte)) (regs : State → State) : State :=
  let s := { State.reset with cfg := { Config.atReset with model := m }, pc := pc, status := .running }
  regs (cells.foldl (fun s c => s.poke c.1 c.2) (s.pokeAll pc code))

/-- The step from `s` gives the registers of `final s`, PC `npc`, `cyc` cycles and the bytes of `s` but for `stores`. -/
def stepsTo (s : State) (final : State → State) (npc : Addr) (cyc : Count) (stores : List (Addr × Byte)) : Bool :=
  match step s with
  | .next t =>
    let e := stores.foldl (fun s c => s.poke c.1 c.2) { final s with pc := npc, cycles := cyc }
    decide ((t.a, t.x, t.y, t.sp, t.p) = (e.a, e.x, e.y, e.sp, e.p) ∧ t.pc = e.pc ∧ t.cycles = e.cycles ∧
      t.mem = e.mem ∧ t.status = e.status ∧ t.fault = none)
  | .fault _ | .refused _ => false

/-- Vectors A1, A2, A3, A4, A5, A6, A7, A8. -/
theorem test_addressing_1 :
    stepsTo (start .nmos6502 0x0800 [0xB5, 0xFF] [(0x000F, 0x5A)]
      (fun s => { s with x := 0x10 }))
      (fun s => { s with a := 0x5A, p := 0x00 }) 0x0802 4 [] ∧
    stepsTo (start .nmos6502 0x0800 [0xB6, 0xFF] [(0x0001, 0x77)]
      (fun s => { s with y := 0x02 }))
      (fun s => { s with x := 0x77, p := 0x00 }) 0x0802 4 [] ∧
    stepsTo (start .nmos6502 0x0800 [0xBD, 0xFF, 0x20] [(0x2100, 0x33)]
      (fun s => { s with x := 0x01 }))
      (fun s => { s with a := 0x33, p := 0x00 }) 0x0803 5 [] ∧
    stepsTo (start .nmos6502 0x0800 [0xBD, 0x00, 0x20] [(0x2001, 0x33)]
      (fun s => { s with x := 0x01 }))
      (fun s => { s with a := 0x33, p := 0x00 }) 0x0803 4 [] ∧
    stepsTo (start .nmos6502 0x0800 [0xBD, 0xFF, 0xFF] [(0x0001, 0x44)]
      (fun s => { s with x := 0x02 }))
      (fun s => { s with a := 0x44, p := 0x00 }) 0x0803 5 [] ∧
    stepsTo (start .nmos6502 0x0800 [0xB9, 0xFF, 0x20] [(0x2100, 0x33)]
      (fun s => { s with y := 0x01 }))
      (fun s => { s with a := 0x33, p := 0x00 }) 0x0803 5 [] ∧
    stepsTo (start .nmos6502 0x0800 [0xA1, 0x20] [(0x0024, 0x00), (0x0025, 0x30), (0x3000, 0x99)]
      (fun s => { s with x := 0x04 }))
      (fun s => { s with a := 0x99, p := 0x80 }) 0x0802 6 [] ∧
    stepsTo (start .nmos6502 0x0800 [0xA1, 0xFE] [(0x00FF, 0x00), (0x0000, 0x30), (0x3000, 0x66)]
      (fun s => { s with x := 0x01 }))
      (fun s => { s with a := 0x66, p := 0x00 }) 0x0802 6 [] := by
  decide +kernel

/-- Vectors A9, A10, A11, A12, A13, A14, A15, A16. -/
theorem test_addressing_2 :
    stepsTo (start .nmos6502 0x0800 [0xB1, 0x40] [(0x0040, 0xFF), (0x0041, 0x20), (0x2100, 0x81)]
      (fun s => { s with y := 0x01 }))
      (fun s => { s with a := 0x81, p := 0x80 }) 0x0802 6 [] ∧
    stepsTo (start .nmos6502 0x0800 [0xB1, 0x40] [(0x0040, 0xFF), (0x0041, 0x20), (0x20FF, 0x00)]
      (fun s => { s with y := 0x00 }))
      (fun s => { s with a := 0x00, p := 0x02 }) 0x0802 5 [] ∧
    stepsTo (start .nmos6502 0x0800 [0xB1, 0xFF] [(0x00FF, 0x00), (0x0000, 0x30), (0x3005, 0x12)]
      (fun s => { s with y := 0x05 }))
      (fun s => { s with a := 0x12, p := 0x00 }) 0x0802 5 [] ∧
    stepsTo (start .cmos65c02 0x0800 [0xB2, 0x40] [(0x0040, 0x00), (0x0041, 0x30), (0x3000, 0x7E)] id)
      (fun s => { s with a := 0x7E, p := 0x00 }) 0x0802 5 [] ∧
    stepsTo (start .cmos65c02 0x0800 [0xB2, 0xFF] [(0x00FF, 0x10), (0x0000, 0x30), (0x3010, 0x01)] id)
      (fun s => { s with a := 0x01, p := 0x00 }) 0x0802 5 [] ∧
    stepsTo (start .nmos6502 0x0800 [0x6C, 0xFF, 0x30] [(0x30FF, 0x80), (0x3000, 0x40), (0x3100, 0x50)] id)
      id 0x4080 5 [] ∧
    stepsTo (start .cmos65c02 0x0800 [0x6C, 0xFF, 0x30] [(0x30FF, 0x80), (0x3000, 0x40), (0x3100, 0x50)] id)
      id 0x5080 6 [] ∧
    stepsTo (start .cmos65c02 0x0800 [0x6C, 0xFF, 0xFF] [(0xFFFF, 0x34), (0x0000, 0x12)] id)
      id 0x1234 6 [] := by
  decide +kernel

/-- Vectors A17, A18, A19, A20, A21, A22. -/
theorem test_addressing_3 :
    stepsTo (start .nmos6502 0x0800 [0x6C, 0xFF, 0xFF] [(0xFFFF, 0x34), (0xFF00, 0x12)] id)
      id 0x1234 5 [] ∧
    stepsTo (start .cmos65c02 0x0800 [0x7C, 0x00, 0x30] [(0x3002, 0x34), (0x3003, 0x12)]
      (fun s => { s with x := 0x02 }))
      id 0x1234 6 [] ∧
    stepsTo (start .cmos65c02 0x0800 [0x7C, 0xFF, 0xFF] [(0x0000, 0x78), (0x0001, 0x56)]
      (fun s => { s with x := 0x01 }))
      id 0x5678 6 [] ∧
    stepsTo (start .nmos6502 0x0800 [0xD0, 0xFC] []
      (fun s => { s with p := 0x00 }))
      id 0x07FE 4 [] ∧
    stepsTo (start .nmos6502 0x0800 [0xD0, 0x7F] []
      (fun s => { s with p := 0x00 }))
      id 0x0881 3 [] ∧
    stepsTo (start .nmos6502 0x0800 [0xD0, 0x80] []
      (fun s => { s with p := 0x00 }))
      id 0x0782 4 [] := by
  decide +kernel

/-- Vectors B1, B2, B3, B4, B5, B6, B7, B8. -/
theorem test_load_store_transfer_1 :
    stepsTo (start .nmos6502 0x0800 [0xA9, 0x00] []
      (fun s => { s with a := 0x05, p := 0x80 }))
      (fun s => { s with a := 0x00, p := 0x02 }) 0x0802 2 [] ∧
    stepsTo (start .nmos6502 0x0800 [0xA9, 0x80] [] id)
      (fun s => { s with a := 0x80, p := 0x80 }) 0x0802 2 [] ∧
    stepsTo (start .nmos6502 0x0800 [0xA2, 0x80] [] id)
      (fun s => { s with x := 0x80, p := 0x80 }) 0x0802 2 [] ∧
    stepsTo (start .nmos6502 0x0800 [0xA0, 0x00] []
      (fun s => { s with y := 0x03 }))
      (fun s => { s with y := 0x00, p := 0x02 }) 0x0802 2 [] ∧
    stepsTo (start .nmos6502 0x0800 [0xBC, 0xFF, 0x20] [(0x2100, 0x7F)]
      (fun s => { s with x := 0x01 }))
      (fun s => { s with y := 0x7F, p := 0x00 }) 0x0803 5 [] ∧
    stepsTo (start .nmos6502 0x0800 [0x8D, 0x00, 0x02] []
      (fun s => { s with a := 0x42 }))
      (fun s => { s with p := 0x00 }) 0x0803 4 [(0x0200, 0x42)] ∧
    stepsTo (start .nmos6502 0x0800 [0x9D, 0xFF, 0x20] []
      (fun s => { s with a := 0x42, x := 0x01 }))
      (fun s => { s with p := 0x00 }) 0x0803 5 [(0x2100, 0x42)] ∧
    stepsTo (start .nmos6502 0x0800 [0x91, 0x40] [(0x0040, 0xFF), (0x0041, 0x20)]
      (fun s => { s with a := 0x42, y := 0x01 }))
      (fun s => { s with p := 0x00 }) 0x0802 6 [(0x2100, 0x42)] := by
  decide +kernel

/-- Vectors B9, B10, B11, B12, B13, B15, B16, B17. -/
theorem test_load_store_transfer_2 :
    stepsTo (start .nmos6502 0x0800 [0x86, 0x10] []
      (fun s => { s with x := 0x05 }))
      (fun s => { s with p := 0x00 }) 0x0802 3 [(0x0010, 0x05)] ∧
    stepsTo (start .nmos6502 0x0800 [0x96, 0xFF] []
      (fun s => { s with x := 0x09, y := 0x02 }))
      (fun s => { s with p := 0x00 }) 0x0802 4 [(0x0001, 0x09)] ∧
    stepsTo (start .nmos6502 0x0800 [0x94, 0x02] []
      (fun s => { s with y := 0x07, x := 0xFF }))
      (fun s => { s with p := 0x00 }) 0x0802 4 [(0x0001, 0x07)] ∧
    stepsTo (start .cmos65c02 0x0800 [0x9C, 0x00, 0x02] [(0x0200, 0x55)] id)
      (fun s => { s with p := 0x00 }) 0x0803 4 [(0x0200, 0x00)] ∧
    stepsTo (start .cmos65c02 0x0800 [0x9E, 0xFF, 0x20] [(0x2100, 0x55)]
      (fun s => { s with x := 0x01 }))
      (fun s => { s with p := 0x00 }) 0x0803 5 [(0x2100, 0x00)] ∧
    stepsTo (start .nmos6502 0x0800 [0xAA] []
      (fun s => { s with a := 0x90 }))
      (fun s => { s with x := 0x90, p := 0x80 }) 0x0801 2 [] ∧
    stepsTo (start .nmos6502 0x0800 [0xA8] []
      (fun s => { s with a := 0x00, y := 0x04 }))
      (fun s => { s with y := 0x00, p := 0x02 }) 0x0801 2 [] ∧
    stepsTo (start .nmos6502 0x0800 [0x8A] []
      (fun s => { s with x := 0x01, p := 0x82 }))
      (fun s => { s with a := 0x01, p := 0x00 }) 0x0801 2 [] := by
  decide +kernel

/-- Vectors B18, B19, B20. -/
theorem test_load_store_transfer_3 :
    stepsTo (start .nmos6502 0x0800 [0x98] []
      (fun s => { s with y := 0xFF }))
      (fun s => { s with a := 0xFF, p := 0x80 }) 0x0801 2 [] ∧
    stepsTo (start .nmos6502 0x0800 [0xBA] []
      (fun s => { s with sp := 0xFF }))
      (fun s => { s with x := 0xFF, p := 0x80 }) 0x0801 2 [] ∧
    stepsTo (start .nmos6502 0x0800 [0x9A] []
      (fun s => { s with x := 0x00, p := 0x02 }))
      (fun s => { s with sp := 0x00, p := 0x02 }) 0x0801 2 [] := by
  decide +kernel

/-- Vectors D1, D2, D3, D4, D5, D6, D7, D8. -/
theorem test_arithmetic_1 :
    stepsTo (start .nmos6502 0x0800 [0x69, 0x90] []
      (fun s => { s with a := 0xD0 }))
      (fun s => { s with a := 0x60, p := 0x41 }) 0x0802 2 [] ∧
    stepsTo (start .nmos6502 0x0800 [0x69, 0x01] []
      (fun s => { s with a := 0x7F }))
      (fun s => { s with a := 0x80, p := 0xC0 }) 0x0802 2 [] ∧
    stepsTo (start .nmos6502 0x0800 [0x69, 0x01] []
      (fun s => { s with a := 0xFF }))
      (fun s => { s with a := 0x00, p := 0x03 }) 0x0802 2 [] ∧
    stepsTo (start .nmos6502 0x0800 [0x69, 0xFF] []
      (fun s => { s with a := 0xFF, p := 0x01 }))
      (fun s => { s with a := 0xFF, p := 0x81 }) 0x0802 2 [] ∧
    stepsTo (start .nmos6502 0x0800 [0x69, 0x00] []
      (fun s => { s with a := 0x00, p := 0x01 }))
      (fun s => { s with a := 0x01, p := 0x00 }) 0x0802 2 [] ∧
    stepsTo (start .nmos6502 0x0800 [0xE9, 0x01] []
      (fun s => { s with a := 0x00, p := 0x01 }))
      (fun s => { s with a := 0xFF, p := 0x80 }) 0x0802 2 [] ∧
    stepsTo (start .nmos6502 0x0800 [0xE9, 0x01] []
      (fun s => { s with a := 0x80, p := 0x01 }))
      (fun s => { s with a := 0x7F, p := 0x41 }) 0x0802 2 [] ∧
    stepsTo (start .nmos6502 0x0800 [0xE9, 0x50] []
      (fun s => { s with a := 0x50, p := 0x01 }))
      (fun s => { s with a := 0x00, p := 0x03 }) 0x0802 2 [] := by
  decide +kernel

/-- Vectors D9, D22, D23, D24, D25, D26, D27, D28. -/
theorem test_arithmetic_2 :
    stepsTo (start .nmos6502 0x0800 [0xE9, 0x00] []
      (fun s => { s with a := 0x00, p := 0x00 }))
      (fun s => { s with a := 0xFF, p := 0x80 }) 0x0802 2 [] ∧
    stepsTo (start .cmos65c02 0x0800 [0x72, 0x40] [(0x0040, 0x00), (0x0041, 0x30), (0x3000, 0x02)]
      (fun s => { s with a := 0x01 }))
      (fun s => { s with a := 0x03, p := 0x00 }) 0x0802 5 [] ∧
    stepsTo (start .nmos6502 0x0800 [0xC9, 0x40] []
      (fun s => { s with a := 0x40 }))
      (fun s => { s with p := 0x03 }) 0x0802 2 [] ∧
    stepsTo (start .nmos6502 0x0800 [0xC9, 0x41] []
      (fun s => { s with a := 0x40 }))
      (fun s => { s with p := 0x80 }) 0x0802 2 [] ∧
    stepsTo (start .nmos6502 0x0800 [0xC9, 0x80] []
      (fun s => { s with a := 0x00 }))
      (fun s => { s with p := 0x80 }) 0x0802 2 [] ∧
    stepsTo (start .nmos6502 0x0800 [0xC9, 0x00] []
      (fun s => { s with a := 0xFF }))
      (fun s => { s with p := 0x81 }) 0x0802 2 [] ∧
    stepsTo (start .nmos6502 0x0800 [0xC9, 0x01] []
      (fun s => { s with a := 0x05, p := 0x48 }))
      (fun s => { s with p := 0x49 }) 0x0802 2 [] ∧
    stepsTo (start .nmos6502 0x0800 [0xE0, 0x20] []
      (fun s => { s with x := 0x10 }))
      (fun s => { s with p := 0x80 }) 0x0802 2 [] := by
  decide +kernel

/-- Vectors D29, D30, D31, D32, D33, D34, D36, D37. -/
theorem test_arithmetic_3 :
    stepsTo (start .nmos6502 0x0800 [0xC0, 0x01] []
      (fun s => { s with y := 0xFF }))
      (fun s => { s with p := 0x81 }) 0x0802 2 [] ∧
    stepsTo (start .nmos6502 0x0800 [0xE6, 0x10] [(0x0010, 0xFF)] id)
      (fun s => { s with p := 0x02 }) 0x0802 5 [(0x0010, 0x00)] ∧
    stepsTo (start .nmos6502 0x0800 [0xC6, 0x10] [(0x0010, 0x00)] id)
      (fun s => { s with p := 0x80 }) 0x0802 5 [(0x0010, 0xFF)] ∧
    stepsTo (start .nmos6502 0x0800 [0xFE, 0xFF, 0x20] [(0x2100, 0x7F)]
      (fun s => { s with x := 0x01 }))
      (fun s => { s with p := 0x80 }) 0x0803 7 [(0x2100, 0x80)] ∧
    stepsTo (start .cmos65c02 0x0800 [0x1A] []
      (fun s => { s with a := 0xFF }))
      (fun s => { s with a := 0x00, p := 0x02 }) 0x0801 2 [] ∧
    stepsTo (start .cmos65c02 0x0800 [0x3A] []
      (fun s => { s with a := 0x00 }))
      (fun s => { s with a := 0xFF, p := 0x80 }) 0x0801 2 [] ∧
    stepsTo (start .nmos6502 0x0800 [0xE8] []
      (fun s => { s with x := 0xFF }))
      (fun s => { s with x := 0x00, p := 0x02 }) 0x0801 2 [] ∧
    stepsTo (start .nmos6502 0x0800 [0xC8] []
      (fun s => { s with y := 0x7F }))
      (fun s => { s with y := 0x80, p := 0x80 }) 0x0801 2 [] := by
  decide +kernel

/-- Vectors D38, D39. -/
theorem test_arithmetic_4 :
    stepsTo (start .nmos6502 0x0800 [0xCA] []
      (fun s => { s with x := 0x00 }))
      (fun s => { s with x := 0xFF, p := 0x80 }) 0x0801 2 [] ∧
    stepsTo (start .nmos6502 0x0800 [0x88] []
      (fun s => { s with y := 0x01 }))
      (fun s => { s with y := 0x00, p := 0x02 }) 0x0801 2 [] := by
  decide +kernel

/-- Vectors E1, E2, E3, E4, E5, E6, E7, E8. -/
theorem test_logic_shift_bit_1 :
    stepsTo (start .nmos6502 0x0800 [0x29, 0x3C] []
      (fun s => { s with a := 0xF0 }))
      (fun s => { s with a := 0x30, p := 0x00 }) 0x0802 2 [] ∧
    stepsTo (start .nmos6502 0x0800 [0x29, 0x00] []
      (fun s => { s with a := 0xFF }))
      (fun s => { s with a := 0x00, p := 0x02 }) 0x0802 2 [] ∧
    stepsTo (start .nmos6502 0x0800 [0x09, 0x80] []
      (fun s => { s with a := 0x01 }))
      (fun s => { s with a := 0x81, p := 0x80 }) 0x0802 2 [] ∧
    stepsTo (start .nmos6502 0x0800 [0x49, 0xFF] []
      (fun s => { s with a := 0x55 }))
      (fun s => { s with a := 0xAA, p := 0x80 }) 0x0802 2 [] ∧
    stepsTo (start .nmos6502 0x0800 [0x49, 0x55] []
      (fun s => { s with a := 0x55 }))
      (fun s => { s with a := 0x00, p := 0x02 }) 0x0802 2 [] ∧
    stepsTo (start .nmos6502 0x0800 [0x24, 0x10] [(0x0010, 0x41)]
      (fun s => { s with a := 0x01 }))
      (fun s => { s with p := 0x40 }) 0x0802 3 [] ∧
    stepsTo (start .nmos6502 0x0800 [0x24, 0x10] [(0x0010, 0xC0)]
      (fun s => { s with a := 0x00 }))
      (fun s => { s with p := 0xC2 }) 0x0802 3 [] ∧
    stepsTo (start .cmos65c02 0x0800 [0x89, 0xC0] []
      (fun s => { s with a := 0x00, p := 0x00 }))
      (fun s => { s with p := 0x02 }) 0x0802 2 [] := by
  decide +kernel

/-- Vectors E9, E10, E11, E12, E13, E14, E15, E16. -/
theorem test_logic_shift_bit_2 :
    stepsTo (start .cmos65c02 0x0800 [0x89, 0x01] []
      (fun s => { s with a := 0x01, p := 0xC0 }))
      (fun s => { s with p := 0xC0 }) 0x0802 2 [] ∧
    stepsTo (start .cmos65c02 0x0800 [0x3C, 0xFF, 0x20] [(0x2100, 0x80)]
      (fun s => { s with a := 0x01, x := 0x01 }))
      (fun s => { s with p := 0x82 }) 0x0803 5 [] ∧
    stepsTo (start .nmos6502 0x0800 [0x0A] []
      (fun s => { s with a := 0x81 }))
      (fun s => { s with a := 0x02, p := 0x01 }) 0x0801 2 [] ∧
    stepsTo (start .nmos6502 0x0800 [0x0A] []
      (fun s => { s with a := 0x80 }))
      (fun s => { s with a := 0x00, p := 0x03 }) 0x0801 2 [] ∧
    stepsTo (start .nmos6502 0x0800 [0x06, 0x10] [(0x0010, 0x40)] id)
      (fun s => { s with p := 0x80 }) 0x0802 5 [(0x0010, 0x80)] ∧
    stepsTo (start .nmos6502 0x0800 [0x1E, 0xFF, 0x20] [(0x2100, 0x01)]
      (fun s => { s with x := 0x01 }))
      (fun s => { s with p := 0x00 }) 0x0803 7 [(0x2100, 0x02)] ∧
    stepsTo (start .cmos65c02 0x0800 [0x1E, 0xFF, 0x20] [(0x2100, 0x01)]
      (fun s => { s with x := 0x01 }))
      (fun s => { s with p := 0x00 }) 0x0803 7 [(0x2100, 0x02)] ∧
    stepsTo (start .cmos65c02 0x0800 [0x1E, 0x00, 0x20] [(0x2001, 0x01)]
      (fun s => { s with x := 0x01 }))
      (fun s => { s with p := 0x00 }) 0x0803 6 [(0x2001, 0x02)] := by
  decide +kernel

/-- Vectors E17, E18, E19, E20, E21, E22, E23, E24. -/
theorem test_logic_shift_bit_3 :
    stepsTo (start .nmos6502 0x0800 [0x4A] []
      (fun s => { s with a := 0xFF }))
      (fun s => { s with a := 0x7F, p := 0x01 }) 0x0801 2 [] ∧
    stepsTo (start .nmos6502 0x0800 [0x4A] []
      (fun s => { s with a := 0x01 }))
      (fun s => { s with a := 0x00, p := 0x03 }) 0x0801 2 [] ∧
    stepsTo (start .nmos6502 0x0800 [0x2A] []
      (fun s => { s with a := 0x40, p := 0x01 }))
      (fun s => { s with a := 0x81, p := 0x80 }) 0x0801 2 [] ∧
    stepsTo (start .nmos6502 0x0800 [0x2A] []
      (fun s => { s with a := 0x80 }))
      (fun s => { s with a := 0x00, p := 0x03 }) 0x0801 2 [] ∧
    stepsTo (start .nmos6502 0x0800 [0x6A] []
      (fun s => { s with a := 0x02, p := 0x01 }))
      (fun s => { s with a := 0x81, p := 0x80 }) 0x0801 2 [] ∧
    stepsTo (start .nmos6502 0x0800 [0x6A] []
      (fun s => { s with a := 0x01 }))
      (fun s => { s with a := 0x00, p := 0x03 }) 0x0801 2 [] ∧
    stepsTo (start .nmos6502 0x0800 [0x66, 0x10] [(0x0010, 0x00)]
      (fun s => { s with p := 0x01 }))
      (fun s => { s with p := 0x80 }) 0x0802 5 [(0x0010, 0x80)] ∧
    stepsTo (start .cmos65c02 0x0800 [0x14, 0x10] [(0x0010, 0xFF)]
      (fun s => { s with a := 0x0F }))
      (fun s => { s with p := 0x00 }) 0x0802 5 [(0x0010, 0xF0)] := by
  decide +kernel

/-- Vectors E25, E26, E27, E28, E29. -/
theorem test_logic_shift_bit_4 :
    stepsTo (start .cmos65c02 0x0800 [0x14, 0x10] [(0x0010, 0x5A)]
      (fun s => { s with a := 0x00 }))
      (fun s => { s with p := 0x02 }) 0x0802 5 [(0x0010, 0x5A)] ∧
    stepsTo (start .cmos65c02 0x0800 [0x0C, 0x00, 0x02] [(0x0200, 0xF0)]
      (fun s => { s with a := 0x0F }))
      (fun s => { s with p := 0x02 }) 0x0803 6 [(0x0200, 0xFF)] ∧
    stepsTo (start .cmos65c02 0x0800 [0x77, 0x10] [(0x0010, 0xFF)] id)
      (fun s => { s with p := 0x00 }) 0x0802 5 [(0x0010, 0x7F)] ∧
    stepsTo (start .cmos65c02 0x0800 [0x87, 0x10] [(0x0010, 0x00)] id)
      (fun s => { s with p := 0x00 }) 0x0802 5 [(0x0010, 0x01)] ∧
    stepsTo (start .cmos65c02 0x0800 [0x07, 0x10] [(0x0010, 0x00)] id)
      id 0x0802 5 [(0x0010, 0x00)] := by
  decide +kernel

/-- Vectors J1, J2, J3, J4, J5, J6, J7, J8. -/
theorem test_control_1 :
    stepsTo (start .nmos6502 0x0800 [0x10, 0x05] []
      (fun s => { s with p := 0x00 }))
      id 0x0807 3 [] ∧
    stepsTo (start .nmos6502 0x0800 [0x10, 0x05] []
      (fun s => { s with p := 0x80 }))
      id 0x0802 2 [] ∧
    stepsTo (start .nmos6502 0x0800 [0x30, 0x05] []
      (fun s => { s with p := 0x80 }))
      id 0x0807 3 [] ∧
    stepsTo (start .nmos6502 0x08F0 [0x50, 0x20] []
      (fun s => { s with p := 0x00 }))
      id 0x0912 4 [] ∧
    stepsTo (start .nmos6502 0x0800 [0x70, 0xFE] []
      (fun s => { s with p := 0x40 }))
      id 0x0800 3 [] ∧
    stepsTo (start .nmos6502 0x0805 [0x90, 0xF9] []
      (fun s => { s with p := 0x00 }))
      id 0x0800 3 [] ∧
    stepsTo (start .nmos6502 0x0800 [0xB0, 0x00] []
      (fun s => { s with p := 0x01 }))
      id 0x0802 3 [] ∧
    stepsTo (start .nmos6502 0x0806 [0xD0, 0xFB] []
      (fun s => { s with p := 0x00 }))
      id 0x0803 3 [] := by
  decide +kernel

/-- Vectors J9, J10, J11, J12, J14, J15, J16, J17. -/
theorem test_control_2 :
    stepsTo (start .nmos6502 0x0800 [0xF0, 0x10] []
      (fun s => { s with p := 0x00 }))
      id 0x0802 2 [] ∧
    stepsTo (start .nmos6502 0xFFFD [0xF0, 0x01] []
      (fun s => { s with p := 0x02 }))
      id 0x0000 4 [] ∧
    stepsTo (start .cmos65c02 0x0800 [0x80, 0xFE] [] id)
      id 0x0800 3 [] ∧
    stepsTo (start .cmos65c02 0x0880 [0x80, 0x7F] [] id)
      id 0x0901 4 [] ∧
    stepsTo (start .cmos65c02 0x0800 [0x0F, 0x10, 0x03] [(0x0010, 0xFE)] id)
      id 0x0806 6 [] ∧
    stepsTo (start .cmos65c02 0x0800 [0x8F, 0x10, 0x03] [(0x0010, 0xFE)] id)
      id 0x0803 5 [] ∧
    stepsTo (start .cmos65c02 0x0800 [0xFF, 0x10, 0x03] [(0x0010, 0x80)] id)
      id 0x0806 6 [] ∧
    stepsTo (start .cmos65c02 0x08F0 [0x7F, 0x10, 0x7F] [(0x0010, 0x00)] id)
      id 0x0972 7 [] := by
  decide +kernel

/-- Vectors J18, J19, J20, J21, J22, J23, J24, J25. -/
theorem test_control_3 :
    stepsTo (start .nmos6502 0x0800 [0x4C, 0x34, 0x12] [] id)
      id 0x1234 3 [] ∧
    stepsTo (start .nmos6502 0x0800 [0x20, 0x10, 0x08] [] id)
      (fun s => { s with sp := 0xFD }) 0x0810 6 [(0x01FF, 0x08), (0x01FE, 0x02)] ∧
    stepsTo (start .nmos6502 0x0800 [0x20, 0x10, 0x08] []
      (fun s => { s with sp := 0x00 }))
      (fun s => { s with sp := 0xFE }) 0x0810 6 [(0x0100, 0x08), (0x01FF, 0x02)] ∧
    stepsTo (start .nmos6502 0x0800 [0x60] [(0x01FE, 0x02), (0x01FF, 0x08)]
      (fun s => { s with sp := 0xFD }))
      (fun s => { s with sp := 0xFF }) 0x0803 6 [] ∧
    stepsTo (start .nmos6502 0x0800 [0x60] [(0x01FE, 0xFF), (0x01FF, 0xFF)]
      (fun s => { s with sp := 0xFD }))
      (fun s => { s with sp := 0xFF }) 0x0000 6 [] ∧
    stepsTo (start .nmos6502 0x0800 [0x40] [(0x01FD, 0xC3), (0x01FE, 0x34), (0x01FF, 0x12)]
      (fun s => { s with sp := 0xFC }))
      (fun s => { s with sp := 0xFF, p := 0xC3 }) 0x1234 6 [] ∧
    stepsTo (start .nmos6502 0x0800 [0x00] []
      (fun s => { s with a := 0x42, p := 0x81 }))
      (fun s => { s with status := .halted }) 0x0801 7 [] ∧
    stepsTo (start .nmos6502 0xFFFF [0x00] [] id)
      (fun s => { s with status := .halted }) 0x0000 7 [] := by
  decide +kernel

/-- Vectors J26. -/
theorem test_control_4 :
    stepsTo (start .nmos6502 0x0800 [0xEA] [] id)
      id 0x0801 2 [] := by
  decide +kernel

/-- Vectors K1, K2, K3, K4, K5, K6, K7, K8. -/
theorem test_stack_flags_1 :
    stepsTo (start .nmos6502 0x0800 [0x48] []
      (fun s => { s with a := 0x42 }))
      (fun s => { s with sp := 0xFE }) 0x0801 3 [(0x01FF, 0x42)] ∧
    stepsTo (start .nmos6502 0x0800 [0x48] []
      (fun s => { s with a := 0x42, sp := 0x00 }))
      (fun s => { s with sp := 0xFF }) 0x0801 3 [(0x0100, 0x42)] ∧
    stepsTo (start .nmos6502 0x0800 [0x08] []
      (fun s => { s with p := 0x01 }))
      (fun s => { s with sp := 0xFE, p := 0x01 }) 0x0801 3 [(0x01FF, 0x31)] ∧
    stepsTo (start .nmos6502 0x0800 [0x08] []
      (fun s => { s with p := 0xCF }))
      (fun s => { s with sp := 0xFE, p := 0xCF }) 0x0801 3 [(0x01FF, 0xFF)] ∧
    stepsTo (start .nmos6502 0x0800 [0x68] [(0x01FF, 0x80)]
      (fun s => { s with sp := 0xFE }))
      (fun s => { s with a := 0x80, sp := 0xFF, p := 0x80 }) 0x0801 4 [] ∧
    stepsTo (start .nmos6502 0x0800 [0x68] [(0x0100, 0x00)]
      (fun s => { s with sp := 0xFF }))
      (fun s => { s with a := 0x00, sp := 0x00, p := 0x02 }) 0x0801 4 [] ∧
    stepsTo (start .nmos6502 0x0800 [0x28] [(0x01FF, 0xFF)]
      (fun s => { s with sp := 0xFE }))
      (fun s => { s with sp := 0xFF, p := 0xFF }) 0x0801 4 [] ∧
    stepsTo (start .nmos6502 0x0800 [0x28] [(0x01FF, 0x00)]
      (fun s => { s with sp := 0xFE, p := 0xFF }))
      (fun s => { s with sp := 0xFF, p := 0x00 }) 0x0801 4 [] := by
  decide +kernel

/-- Vectors K9, K10, K11, K12, K14, K15, K16, K17. -/
theorem test_stack_flags_2 :
    stepsTo (start .cmos65c02 0x0800 [0xDA] []
      (fun s => { s with x := 0x05, sp := 0x80 }))
      (fun s => { s with sp := 0x7F }) 0x0801 3 [(0x0180, 0x05)] ∧
    stepsTo (start .cmos65c02 0x0800 [0x5A] []
      (fun s => { s with y := 0x09, sp := 0x00 }))
      (fun s => { s with sp := 0xFF }) 0x0801 3 [(0x0100, 0x09)] ∧
    stepsTo (start .cmos65c02 0x0800 [0xFA] [(0x01FF, 0x00)]
      (fun s => { s with sp := 0xFE }))
      (fun s => { s with x := 0x00, sp := 0xFF, p := 0x02 }) 0x0801 4 [] ∧
    stepsTo (start .cmos65c02 0x0800 [0x7A] [(0x0100, 0x90)]
      (fun s => { s with sp := 0xFF }))
      (fun s => { s with y := 0x90, sp := 0x00, p := 0x80 }) 0x0801 4 [] ∧
    stepsTo (start .nmos6502 0x0800 [0x18] []
      (fun s => { s with p := 0xFF }))
      (fun s => { s with p := 0xFE }) 0x0801 2 [] ∧
    stepsTo (start .nmos6502 0x0800 [0xD8] []
      (fun s => { s with p := 0x08 }))
      (fun s => { s with p := 0x00 }) 0x0801 2 [] ∧
    stepsTo (start .nmos6502 0x0800 [0x58] []
      (fun s => { s with p := 0x04 }))
      (fun s => { s with p := 0x00 }) 0x0801 2 [] ∧
    stepsTo (start .nmos6502 0x0800 [0xB8] []
      (fun s => { s with p := 0x40 }))
      (fun s => { s with p := 0x00 }) 0x0801 2 [] := by
  decide +kernel

/-- Vectors K18, K19, K20. -/
theorem test_stack_flags_3 :
    stepsTo (start .nmos6502 0x0800 [0x38] [] id)
      (fun s => { s with p := 0x01 }) 0x0801 2 [] ∧
    stepsTo (start .nmos6502 0x0800 [0xF8] [] id)
      (fun s => { s with p := 0x08 }) 0x0801 2 [] ∧
    stepsTo (start .nmos6502 0x0800 [0x78] [] id)
      (fun s => { s with p := 0x04 }) 0x0801 2 [] := by
  decide +kernel

/-- The step from `s` gives the accumulator, PC and cycle count; it takes no fault. (N, Z and V are free after it.) -/
def stepsToA (s : State) (a : Byte) (pc : Addr) (cyc : Count) : Bool :=
  match step s with
  | .next t => decide (t.a = a ∧ t.pc = pc ∧ t.cycles = cyc ∧ t.status = .running)
  | .fault _ | .refused _ => false

/-- Vectors D10, D11, D12, D13, D14, D15, D16, D17, D21: decimal mode. -/
theorem test_decimal :
    stepsToA (start .nmos6502 0x0800 [0x69, 0x22] []
      (fun s => { s with a := 0x19, p := 0x08 })) 0x41 0x0802 2 ∧
    stepsToA (start .nmos6502 0x0800 [0x69, 0x10] []
      (fun s => { s with a := 0x99, p := 0x08 })) 0x09 0x0802 2 ∧
    stepsToA (start .nmos6502 0x0800 [0x69, 0x00] []
      (fun s => { s with a := 0x99, p := 0x09 })) 0x00 0x0802 2 ∧
    stepsToA (start .nmos6502 0x0800 [0x69, 0x46] []
      (fun s => { s with a := 0x58, p := 0x09 })) 0x05 0x0802 2 ∧
    stepsToA (start .nmos6502 0x0800 [0xE9, 0x01] []
      (fun s => { s with a := 0x00, p := 0x09 })) 0x99 0x0802 2 ∧
    stepsToA (start .nmos6502 0x0800 [0xE9, 0x12] []
      (fun s => { s with a := 0x46, p := 0x09 })) 0x34 0x0802 2 ∧
    stepsToA (start .nmos6502 0x0800 [0xE9, 0x13] []
      (fun s => { s with a := 0x40, p := 0x08 })) 0x26 0x0802 2 ∧
    stepsToA (start .nmos6502 0x0800 [0xE9, 0x00] []
      (fun s => { s with a := 0x00, p := 0x08 })) 0x99 0x0802 2 ∧
    stepsToA (start .cmos65c02 0x0800 [0x69, 0x22] []
      (fun s => { s with a := 0x19, p := 0x08 })) 0x41 0x0802 3 := by
  decide +kernel

/-- The step from `s` takes the fault `f` after loads of `addrs` and stores nothing. -/
def faultsWith (s : State) (f : FaultRecord) (addrs : List Addr) : Bool :=
  match step s with
  | .next t => decide (t.status = .faulted ∧ t.fault = some f ∧ t.mem = s.mem ∧
      t.counts = (s.counted addrs).counts ∧ t.replies = [.failure f])
  | .fault _ | .refused _ => false

/-- Vectors B14, D18, D19, D20, D35, E30, J13, K13: illegal opcodes and BCD operands. -/
theorem test_faults :
    faultsWith (start .nmos6502 0x0800 [0x9C, 0x00, 0x02] [] id) (.illegalOpcode 0x9C 0x0800) [0x0800] ∧
    faultsWith (start .nmos6502 0x0800 [0x69, 0x01] []
      (fun s => { s with a := 0x1A, p := 0x08 })) (.invalidBCD 0x1A 0x01) [0x0800, 0x0801] ∧
    faultsWith (start .nmos6502 0x0800 [0xE9, 0xA0] []
      (fun s => { s with a := 0x19, p := 0x09 })) (.invalidBCD 0x19 0xA0) [0x0800, 0x0801] ∧
    faultsWith (start .nmos6502 0x0800 [0x65, 0x10] [(0x0010, 0x0F)]
      (fun s => { s with a := 0x12, p := 0x08 })) (.invalidBCD 0x12 0x0F) [0x0800, 0x0801, 0x0010] ∧
    faultsWith (start .nmos6502 0x0800 [0x1A] [] id) (.illegalOpcode 0x1A 0x0800) [0x0800] ∧
    faultsWith (start .nmos6502 0x0800 [0x07, 0x10] [] id) (.illegalOpcode 0x07 0x0800) [0x0800] ∧
    faultsWith (start .nmos6502 0x0800 [0x80, 0xFE] [] id) (.illegalOpcode 0x80 0x0800) [0x0800] ∧
    faultsWith (start .nmos6502 0x0800 [0xDA] []
      (fun s => { s with x := 0x05 })) (.illegalOpcode 0xDA 0x0800) [0x0800] := by
  decide +kernel

/-- F1 to F3: illegal opcodes at fetch, as a whole step. -/
theorem test_illegal_opcodes :
    faultsWith (start .nmos6502 0x0800 [0x02] [] id) (.illegalOpcode 0x02 0x0800) [0x0800] ∧
    faultsWith (start .nmos6502 0x0800 [0x80] [] id) (.illegalOpcode 0x80 0x0800) [0x0800] ∧
    faultsWith (start .cmos65c02 0x0800 [0xCB] [] id) (.illegalOpcode 0xCB 0x0800) [0x0800] := by
  decide +kernel

/-- `start` on a linear array of `size` bytes. -/
def startSmall (size : Nat) (pc : Addr) (code : List Byte) : State :=
  let s := { State.reset with
    cfg := { Config.atReset with model := .nmos6502, backend := .linear size }, pc := pc, status := .running }
  s.pokeAll pc code

/-- F4 to F8: out of range, with the loads counted before the fault. -/
theorem test_out_of_range :
    faultsWith (startSmall 0x1000 0x0800 [0xAD, 0x00, 0x20]) (.outOfRange 0x2000 .load) [0x0800, 0x0801, 0x0802] ∧
    stepsTo (startSmall 0x1000 0x0FFF [0xEA]) id 0x1000 2 [] ∧
    faultsWith (startSmall 0x1000 0x1000 []) (.outOfRange 0x1000 .load) [] ∧
    faultsWith (startSmall 0x1000 0x0800 [0xEE, 0x00, 0x20]) (.outOfRange 0x2000 .load) [0x0800, 0x0801, 0x0802] ∧
    faultsWith (startSmall 0x1000 0x0800 [0x8D, 0x00, 0x20]) (.outOfRange 0x2000 .store) [0x0800, 0x0801, 0x0802] ∧
    faultsWith (startSmall 0x0100 0x0000 [0x48]) (.outOfRange 0x01FF .store) [0x0000] := by
  decide +kernel

/-- The step from `s` leaves the counters of `s` after loads of `loads` and one count for each of `stores`. -/
def countsTo (s : State) (loads stores : List Addr) : Bool :=
  match step s with
  | .next t => decide (t.counts = (s.counted (loads ++ stores)).counts)
  | .fault _ | .refused _ => false

/-- The counter facts of A7, A3 (no dummy read), B6, D32, E25, J2 and J15 (the offset of a branch not taken is not read). -/
theorem test_counters :
    countsTo (start .nmos6502 0x0800 [0xA1, 0x20] [(0x0024, 0x00), (0x0025, 0x30), (0x3000, 0x99)]
      (fun s => { s with x := 0x04 })) [0x0800, 0x0801, 0x0024, 0x0025, 0x3000] [] ∧
    countsTo (start .nmos6502 0x0800 [0xBD, 0xFF, 0x20] [] (fun s => { s with x := 0x01 }))
      [0x0800, 0x0801, 0x0802, 0x2100] [] ∧
    countsTo (start .nmos6502 0x0800 [0x8D, 0x00, 0x02] [] id) [0x0800, 0x0801, 0x0802] [0x0200] ∧
    countsTo (start .nmos6502 0x0800 [0xFE, 0xFF, 0x20] [] (fun s => { s with x := 0x01 }))
      [0x0800, 0x0801, 0x0802, 0x2100] [0x2100] ∧
    countsTo (start .cmos65c02 0x0800 [0x14, 0x10] [(0x0010, 0x5A)] id) [0x0800, 0x0801, 0x0010] [0x0010] ∧
    countsTo (start .nmos6502 0x0800 [0x10, 0x05] [] (fun s => { s with p := 0x80 })) [0x0800] [] ∧
    countsTo (start .cmos65c02 0x0800 [0x8F, 0x10, 0x03] [(0x0010, 0xFE)] id) [0x0800, 0x0801, 0x0010] [] := by
  decide +kernel

/-! ## ALU functions (L1 to L24) -/

/-- L1 to L9: `AddBin` and `SubBin`. -/
theorem test_binary_alu :
    addBin 0xD0 0x90 false = (0x60, true, true) ∧ addBin 0x7F 0x01 false = (0x80, false, true) ∧
    addBin 0xFF 0x01 false = (0x00, true, false) ∧ addBin 0x80 0x80 false = (0x00, true, true) ∧
    addBin 0xFF 0xFF true = (0xFF, true, false) ∧ subBin 0x00 0x01 true = (0xFF, false, false) ∧
    subBin 0x80 0x01 true = (0x7F, true, true) ∧ subBin 0x50 0x50 true = (0x00, true, false) ∧
    subBin 0x00 0x00 false = (0xFF, false, false) := by decide +kernel

/-- L10 to L19: `AddBcd` and `SubBcd`. -/
theorem test_decimal_alu :
    addBcd 0x19 0x22 false = some (0x41, false) ∧ addBcd 0x99 0x10 false = some (0x09, true) ∧
    addBcd 0x99 0x00 true = some (0x00, true) ∧ addBcd 0x58 0x46 true = some (0x05, true) ∧
    addBcd 0x99 0x99 true = some (0x99, true) ∧ subBcd 0x46 0x12 true = some (0x34, true) ∧
    subBcd 0x00 0x01 true = some (0x99, false) ∧ subBcd 0x00 0x99 false = some (0x00, false) ∧
    addBcd 0x1A 0x01 false = none ∧ subBcd 0x19 0xA0 true = none := by decide +kernel

/-- L20 to L24: `Compare` from P = 0, as N, Z and C. -/
theorem test_compare :
    compareFlags 0 0x40 0x40 = 0x03 ∧ compareFlags 0 0x40 0x41 = 0x80 ∧ compareFlags 0 0x00 0x80 = 0x80 ∧
    compareFlags 0 0xFF 0x00 = 0x81 ∧ compareFlags 0 0x05 0x01 = 0x01 := by decide +kernel

/-! ## Memory (section 9) -/

/-- A backend with some physical bytes given and the rest 0. -/
def startOn (b : Backend) (bytes : List (Phys × Byte)) : State :=
  let s := { State.reset with cfg := { Config.atReset with backend := b } }
  { s with mem := bytes.foldl (fun m e => m.write e.1 e.2) s.mem }

/-- A store of `v` to `a` changes the byte `ph` and its counter alone. -/
def storesAt (s : State) (a : Addr) (v : Byte) (ph : Phys) : Bool :=
  match memWrite a v s with
  | .ok _ t => decide (t.mem = s.mem.write ph v ∧ t.counts = s.counts.write ph 1)
  | .error _ _ => false

/-- A load of `a` reads the byte `ph` and raises its counter alone. -/
def loadsAt (s : State) (a : Addr) (ph : Phys) : Bool :=
  match memRead a s with
  | .ok v t => decide (v = s.mem.read ph ∧ t = { s with counts := s.counts.write ph 1 })
  | .error _ _ => false

/-- M1, M2, M4 to M8: the bank-switched backend. -/
theorem test_bank_switched :
    storesAt (startOn (.bankSwitched 2 32) []) 0xA005 0x12 ⟨.ramb, 0x0005⟩ ∧
    storesAt (startOn (.bankSwitched 2 32) [(⟨.low, 0⟩, 0x01)]) 0xA005 0x34 ⟨.ramb, 0x2005⟩ ∧
    loadsAt (startOn (.bankSwitched 2 32) [(⟨.low, 1⟩, 0x21), (⟨.romb, 0x4010⟩, 0x5C)]) 0xC010 ⟨.romb, 0x4010⟩ ∧
    storesAt (startOn (.bankSwitched 2 32) []) 0xFFFF 0x77 ⟨.romb, 0x3FFF⟩ ∧
    (startOn (.bankSwitched 2 32) [(⟨.low, 0⟩, 0x02)]).resolve 0xA000 = none ∧
    storesAt (startOn (.bankSwitched 2 32) []) 0x0000 0x01 ⟨.low, 0⟩ ∧
    loadsAt (startOn (.bankSwitched 2 32) [(⟨.low, 0⟩, 0xFF)]) 0x9FFF ⟨.low, 0x9FFF⟩ := by decide +kernel

/-- M10 to M14: the track/sector backend. -/
theorem test_track_sector :
    storesAt (startOn (.trackSector 4 0xDF00 0xDF01 0xDE) [(⟨.base, 0xDF00⟩, 0x05), (⟨.base, 0xDF01⟩, 0x13)]) 0xDE10
      0x77 ⟨.ind, 0x5310⟩ ∧
    storesAt (startOn (.trackSector 0 0xDF00 0xDF01 0xDE) [(⟨.base, 0xDF00⟩, 0x05), (⟨.base, 0xDF01⟩, 0x13)]) 0xDE10
      0x77 ⟨.ind, 0x051310⟩ ∧
    loadsAt (startOn (.trackSector 9 0xDF00 0xDF01 0xDE) [(⟨.base, 0xDF00⟩, 0x45), (⟨.base, 0xDF01⟩, 0xFF)]) 0xDEFF
      ⟨.ind, 0x05FFFF⟩ ∧
    loadsAt (startOn (.trackSector 3 0xDF00 0xDF01 0xDE) [(⟨.base, 0xDF00⟩, 0x05), (⟨.base, 0xDF01⟩, 0x13)]) 0xDE10
      ⟨.ind, 0x2B10⟩ ∧
    loadsAt (startOn (.trackSector 3 0xDF00 0xDF01 0xDE) [(⟨.base, 0xDF00⟩, 0x05)]) 0xDF00 ⟨.base, 0xDF00⟩ := by
  decide +kernel

/-- M20 to M24 and M26 to M30: the MMU backend. -/
theorem test_mmu :
    loadsAt (startOn (.mmu 16) []) 0x0000 ⟨.ctrl, 0⟩ ∧ loadsAt (startOn (.mmu 16) []) 0xA000 ⟨.sys, 0x0000⟩ ∧
    storesAt (startOn (.mmu 16) [(⟨.ctrl, 0⟩, 0x80)]) 0x000D 0x08 ⟨.lut, 5⟩ ∧
    storesAt (startOn (.mmu 16) []) 0x000D 0x08 ⟨.sys, 0x000D⟩ ∧
    storesAt (startOn (.mmu 16) [(⟨.lut, 5⟩, 0x08)]) 0xA000 0x5A ⟨.sys, 0x10000⟩ ∧
    storesAt (startOn (.mmu 16) []) 0xC000 0x5A ⟨.io, 0x0000⟩ ∧
    storesAt (startOn (.mmu 16) [(⟨.ctrl, 1⟩, 0x03)]) 0xC000 0x5A ⟨.io, 0x6000⟩ ∧
    storesAt (startOn (.mmu 16) [(⟨.ctrl, 1⟩, 0x04)]) 0xC000 0x5A ⟨.sys, 0x0000⟩ ∧
    (startOn (.mmu 8) [(⟨.lut, 5⟩, 0x08)]).resolve 0xA000 = none ∧
    storesAt (startOn (.mmu 16) [(⟨.ctrl, 0⟩, 0x83)]) 0x0008 0x02 ⟨.lut, 0⟩ := by decide +kernel

/-- F11, F12: construction that is refused, and one that is not. -/
theorem test_construction :
    Backend.check (.linear 0) = some .linearSize ∧
    Backend.check (.trackSector 4 0xDE05 0xDF01 0xDE) = some .trackSectorAddresses ∧
    Backend.check (.trackSector 4 0xDF00 0xDF01 0xDE) = none := by decide +kernel

/-- Linear memory with a sink at 0x0300 and the byte 0x11 below it. -/
def startSink : State :=
  let s := { State.reset with cfg := { Config.atReset with sinks := [(0x0300, 0)] } }
  s.poke 0x0300 0x11

/-- W2, W4: loads and the statistics pass the wrapper, and a store beside the sink reaches the backend. -/
theorem test_wrapper :
    loadsAt startSink 0x0300 ⟨.lin, 0x0300⟩ ∧ startSink.peek 0x0300 = 0x11 ∧
    storesAt startSink 0x0301 0x99 ⟨.lin, 0x0301⟩ ∧ startSink.sinkAt 0x0300 = some 0 := by decide +kernel

/-! ## Host commands (section 9) -/

/-- The reply of a command and the state after it. -/
def replyIs (c : HostCommand) (s : State) (r : HostReply) (t : State) : Bool :=
  decide ((hostCommand c s).1 = some r) && decide ((hostCommand c s).2 = t)

/-- The state after H1: three stores, counted. -/
def loadedH1 : State :=
  let s := State.reset
  ((s.storeAt ⟨.lin, 0x0800⟩ 0xA9).storeAt ⟨.lin, 0x0801⟩ 0x42).storeAt ⟨.lin, 0x0802⟩ 0x00

/-- H1 to H8: host transfers. -/
theorem test_host_transfers :
    replyIs (.loadProgram [0x00, 0x08, 0xA9, 0x42, 0x00]) State.reset (.loaded 0x0800 3) loadedH1 ∧
    replyIs (.loadProgram [0x00, 0x08]) State.reset (.error (.programTooShort 2)) State.reset ∧
    replyIs (.loadProgram [0xFF, 0xFF, 0x01, 0x02]) State.reset (.loaded 0xFFFF 2)
      ((State.reset.storeAt ⟨.lin, 0xFFFF⟩ 0x01).storeAt ⟨.lin, 0x0000⟩ 0x02) ∧
    replyIs (.copyToMem [] 0x0200) State.reset (.error (.badRange 0x0200 0)) State.reset ∧
    replyIs (.copyToMem [0x01, 0x02] 0xFFFF) State.reset (.error (.badRange 0xFFFF 2)) State.reset ∧
    replyIs (.copyToMem [0x01] 0xFFFF) State.reset .ok (State.reset.storeAt ⟨.lin, 0xFFFF⟩ 0x01) ∧
    replyIs (.copyFromMem 0x0800 2) loadedH1 (.bytes [0xA9, 0x42]) (loadedH1.counted [0x0800, 0x0801]) ∧
    replyIs (.getStatistics 0x0800) (loadedH1.counted [0x0800, 0x0801]) (.statistics 2)
      (loadedH1.counted [0x0800, 0x0801]) ∧
    (HostError.programTooShort 2).code = 17 ∧ (HostError.badRange 0 0).code = 18 := by decide +kernel

/-- X1 to X5: snapshot and restore, the counters of the stores in between kept. -/
theorem test_snapshot :
    let s := startOn (.bankSwitched 2 32) [(⟨.ramb, 0⟩, 0x11)]
    let t := { s with snap := some s.mem }
    let u := (t.storeAt ⟨.ramb, 0⟩ 0x55).storeAt ⟨.low, 0⟩ 0x01
    replyIs .takeSnapshot s .ok t ∧ replyIs .restoreSnapshot u .ok { u with mem := s.mem } ∧
    replyIs .restoreSnapshot s (.error .noSnapshot) s ∧ HostError.noSnapshot.code = 20 ∧
    replyIs .takeSnapshot { s with status := .running } (.error .busy) { s with status := .running } := by
  decide +kernel

/-! ## Statistics (section 10) -/

/-- T1 to T15: the index. -/
theorem test_cutoff_index :
    cutoffIndex 3 0x3FE0000000000000 = 1 ∧ cutoffIndex 6 0x3FE0000000000000 = 3 ∧
    cutoffIndex 10 0x3FECCCCCCCCCCCCD = 0 ∧ cutoffIndex 10 0x3FE999999999999A = 1 ∧
    cutoffIndex 10 0x3FE6666666666666 = 3 ∧ cutoffIndex 10 0x3FD3333333333333 = 7 ∧
    cutoffIndex 3 0x3FE6666666666666 = 0 ∧ cutoffIndex 100 0x3FECCCCCCCCCCCCD = 9 ∧
    cutoffIndex 10 0x3FB999999999999A = 9 ∧ cutoffIndex 1 0 = 0 ∧ cutoffIndex 1 0x3FF0000000000000 = 0 ∧
    cutoffIndex 5 0 = 4 ∧ cutoffIndex 5 0x3FF0000000000000 = 0 ∧ cutoffIndex 7 0x3FD0000000000000 = 5 ∧
    cutoffIndex 3 0x3FECCCCCCCCCCCCD = 0 := by decide +kernel

/-- R341: -0.1, 1.5 and a NaN are no fractions; 0, 1 and -0.0 are. -/
theorem test_fractions :
    validFraction 0xBFB999999999999A = false ∧ validFraction 0x3FF8000000000000 = false ∧
    validFraction 0x7FF8000000000000 = false ∧ validFraction 0x3FF0000000000001 = false ∧ validFraction 0 = true ∧
    validFraction 0x3FF0000000000000 = true ∧ validFraction 0x8000000000000000 = true := by decide +kernel

/-- Linear memory whose bytes from 0x0200 on have the given counts and hold 0, 1, 2, ... -/
def startCounts (ns : List Count) : State :=
  let s := State.reset
  let cs := (List.range ns.length).zip ns
  { s with
    mem    := cs.foldl (fun m e => m.write ⟨.lin, 0x0200 + e.1⟩ (BitVec.ofNat 8 e.1)) s.mem
    counts := cs.foldl (fun m e => m.write ⟨.lin, 0x0200 + e.1⟩ e.2) s.counts }

/-- Both cutoffs of the first `n` counts are `x` and `y`. -/
def cutoffsAre (ns : List Count) (p : Fraction) (x y : Count) : Bool :=
  let s := startCounts ns
  let last := (0x01FF : Addr) + BitVec.ofNat 16 ns.length
  replyIs (.cutoffAbsolute 0x0200 last p) s (.cutoff x) s && replyIs (.cutoffMedian 0x0200 last p) s (.cutoff y) s

/-- T16 to T22. -/
theorem test_cutoffs :
    cutoffsAre [1, 1, 2, 3, 3, 3] 0x3FE0000000000000 2 3 ∧ cutoffsAre [1, 1, 2, 3, 3, 3] 0 3 3 ∧
    cutoffsAre [1, 1, 2, 3, 3, 3] 0x3FF0000000000000 1 1 ∧ cutoffsAre [0, 0, 0, 5] 0x3FE0000000000000 5 0 ∧
    cutoffsAre [4, 4, 4, 4] 0x3FD3333333333333 4 4 ∧
    cutoffsAre [0, 1, 2, 3, 4, 5, 6, 7, 8, 9] 0x3FECCCCCCCCCCCCD 0 0 ∧
    cutoffsAre [0, 1, 2, 3, 4, 5, 6, 7, 8, 9] 0x3FE999999999999A 1 1 := by decide +kernel

/-- T23: the report and the counters after it. -/
theorem test_report :
    let s := startCounts [1, 1, 2, 3, 3, 3]
    replyIs (.report 0x0200 0x0205 0x3FE0000000000000 .absolute [(0x0202, ["loop"])]) s
      (.report
        [.entry false 0x0200 0x00 1, .entry false 0x0201 0x01 1, .label "loop", .entry true 0x0202 0x02 2,
          .entry true 0x0203 0x03 3, .entry true 0x0204 0x04 3, .entry true 0x0205 0x05 3] none)
      (s.counted [0x0200, 0x0201, 0x0202, 0x0203, 0x0204, 0x0205]) := by decide +kernel

/-- The host's check: a placed word is run as the first instruction after reset. -/
theorem test_first_instruction :
    (match step (State.reset.withFetchWord 16 0x42A9) with
      | .next t => decide (t.a = 0x42 ∧ t.pc = 2 ∧ t.status = .running)
      | .fault _ | .refused _ => false) = true := by decide +kernel

/-! ## Witnesses for the statements -/

/-- `allReadable` as a check that runs over the list. -/
theorem allReadable_iff (s : State) (l : List Addr) : s.allReadable l ↔ l.all s.readable = true := by
  simp [State.allReadable]

/-- A state of model `m` with linear memory and a run in progress. -/
def plain (m : CpuModel) : State := start m 0x0800 [] [] id

/-- `plain` with an index of 0xFF in X and Y, A = 0x99 and every flag set. -/
def full (m : CpuModel) : State := { plain m with a := 0x99, x := 0xFF, y := 0xFF, p := 0xFF }

theorem test_witness_decode_encode :
    WellFormed .nmos6502 (.ldaAbsx 0xFFFF) = true ∧ WellFormed .cmos65c02 (.bbs7 0xFF 0x80) = true := by decide

theorem test_witness_encode_decode :
    decode .nmos6502 [0x6C, 0xFF, 0xFF, 0x01] = .ok (.jmpInd 0xFFFF, [0x01]) ∧
    decode .cmos65c02 [0xFF, 0x10, 0x80] = .ok (.bbs7 0x10 0x80, []) := by decide +kernel

theorem test_witness_written_words :
    Instr.mnemonic (.rmb0 0xFF) = .rmb 0 ∧ Instr.mnemonic (.smb7 0xFF) = .smb 7 ∧
    Instr.mnemonic (.bbr0 0xFF 0x80) = .bbr 0 ∧ Instr.mnemonic (.bbs7 0xFF 0x80) = .bbs 7 := ⟨rfl, rfl, rfl, rfl⟩

theorem test_witness_step_runs_decoded :
    let s := start .cmos65c02 0xFFFE [0x8F, 0x10, 0x03] [] id
    let i := Instr.bbs0 0x10 0x03
    Backend.check s.cfg.backend = none ∧ s.status = .running ∧ s.readable s.pc = true ∧
      WellFormed s.cfg.model i = true ∧
      ∀ k : Nat, k < i.length → (encode i)[k]? = some (s.peek (s.pc + BitVec.ofNat 16 k)) := by decide +kernel

theorem test_witness_step_faults_on_fetch :
    (∃ s, s = start .nmos6502 0x0800 [0xFF] [] id ∧ Backend.check s.cfg.backend = none ∧ s.status = .running ∧
      s.readable s.pc = true ∧ ∀ i : Instr, WellFormed s.cfg.model i = true → i.opcode ≠ s.peek s.pc) ∧
    (∃ s, s = startSmall 0x1000 0x1000 [] ∧ Backend.check s.cfg.backend = none ∧ s.status = .running ∧
      s.readable s.pc = false) := by
  refine ⟨⟨_, rfl, by decide, by decide, by decide +kernel, fun i h e => ?_⟩,
    ⟨_, rfl, by decide, by decide, by decide +kernel⟩⟩
  have e' : i.opcode = 0xFF := e.trans (by decide +kernel)
  have h' : legalOpcode .nmos6502 i.opcode = true := h
  rw [e'] at h'
  exact absurd h' (by decide)

theorem test_witness_cmos_only_on_nmos :
    ∀ i ∈ [Instr.ldaZpi 0xFF, .stzAbsx 0xFFFF, .incAcc, .bitImm 0x80, .tsbAbs 0, .rmb7 0, .bra 0x80, .bbs7 0 0,
      .jmpAix 0xFFFF, .phx, .ply], (plain .nmos6502).cfg.model = .nmos6502 ∧ WellFormed .nmos6502 i = false := by
  decide

/-- For each clause: the first unreadable address is an operand byte, a pointer byte, the effective address, a branch offset or
a stack byte. -/
theorem test_witness_out_of_range :
    (∀ e ∈ [(startSmall 0x1000 0x1000 [], Instr.ldaImm 0, ([] : List Addr), (0x1000 : Addr), ([] : List Addr)),
        (startSmall 0x1000 0x0FFF [], .jsr 0x1000, [0x0FFF], 0x1000, []),
        (startSmall 0x0020 0x0000 [], .eorIndy 0x1F, [0x0000, 0x001F], 0x0020, []),
        (startSmall 0x1000 0x0800 [], .jmpInd 0x1000, [0x0800, 0x0801], 0x1000, [0x1001])],
      WellFormed e.1.cfg.model e.2.1 = true ∧
        e.1.operandReads e.2.1.operand = e.2.2.1 ++ e.2.2.2.1 :: e.2.2.2.2 ∧ e.1.allReadable e.2.2.1 ∧
        e.1.readable e.2.2.2.1 = false) ∧
    (∀ e ∈ [(Instr.staAbs 0x1000, MemMode.abs 0x1000), (.incAbs 0xFFFF, .abs 0xFFFF), (.adcAbs 0x1000, .abs 0x1000)],
      let s := startSmall 0x1000 0x0800 []
      e.1.operand = .mem e.2 ∧ WellFormed s.cfg.model e.1 = true ∧ s.allReadable (s.modeReads e.2) ∧
        s.readable (s.ea e.2).addr = false ∧ s.sinkAt (s.ea e.2).addr = none) ∧
    (∀ i ∈ [Instr.smb7 0x20, .tsbZp 0x20],
      let s := { startSmall 0x0020 0x0000 [] with cfg := { Config.atReset with backend := .linear 0x0020 } }
      i.operand = .mem (.zp 0x20) ∧ WellFormed s.cfg.model i = true ∧ s.allReadable (s.modeReads (.zp 0x20)) ∧
        s.readable (s.ea (.zp 0x20)).addr = false) ∧
    (let s := startSmall 0x1000 0x1000 []; flag s.p .z = false ∧ WellFormed s.cfg.model (.bne 0) = true ∧
      s.readable s.pc = false) ∧
    (let s := startSmall 0x0100 0x00FE []; s.readable (w16 0x01 (s.sp + 1)) = false ∧
      s.sinkAt (w16 0x01 s.sp) = none ∧ s.readable (w16 0x01 s.sp) = false ∧ s.allReadable [s.pc, s.pc + 1] ∧
      ∀ i ∈ [Instr.pla, .plp, .rts, .rti, .pha, .php, .jsr 0], WellFormed s.cfg.model i = true) := by
  simp only [allReadable_iff]; decide +kernel

/-- The later clauses of the same statement: the offset of a taken BBR or BBS, a later pull, the second push of JSR. -/
theorem test_witness_out_of_range_later :
    (∀ e ∈ [((0x00 : Byte), Instr.bbr7 0xFF 0x80, (7 : Fin 8)), (0xFF, .bbs0 0xFF 0x80, 0)],
      let s := (startOn (.linear 0x1000) [(⟨.lin, 0x00FF⟩, e.1)]).setPc 0x0FFF
      e.2.1.operand = .zprel 0xFF 0x80 ∧ WellFormed s.cfg.model e.2.1 = true ∧ s.allReadable [s.pc, w16 0 0xFF] ∧
        s.readable (s.pc + 1) = false ∧
        (e.2.1.mnemonic = .bbr e.2.2 ∧ (s.peek (w16 0 0xFF)).getLsbD e.2.2.val = false ∨
          e.2.1.mnemonic = .bbs e.2.2 ∧ (s.peek (w16 0 0xFF)).getLsbD e.2.2.val = true)) ∧
    (∀ s ∈ [(startSmall 0x0102 0x0000 []).setSp 0x00],
      s.readable (w16 0x01 (s.sp + 1)) = true ∧ s.readable (w16 0x01 (s.sp + 2)) = false ∧
        s.allReadable [s.pc, s.pc + 1] ∧ s.sinkAt (w16 0x01 s.sp) = none ∧
        s.resolve (w16 0x01 s.sp) = some ⟨.lin, 0x0100⟩ ∧ s.sinkAt (w16 0x01 (s.sp - 1)) = none ∧
        s.readable (w16 0x01 (s.sp - 1)) = false) ∧
    (∀ s ∈ [(startSmall 0x0102 0x0000 []).setSp 0xFF],
      s.allReadable [w16 0x01 (s.sp + 1), w16 0x01 (s.sp + 2)] ∧ s.readable (w16 0x01 (s.sp + 3)) = false) := by
  simp only [allReadable_iff]; decide +kernel

/-- Read-class instructions, at operands that wrap. (Statements `loads_write_register_and_nz`, `adc_sbc_binary_result_and_flags`, `compares_write_c_z_n_alone`, `logic_result_and_nz`, `bit_tests_operand_against_a`.) -/
theorem test_witness_read_class :
    ∀ i ∈ [Instr.ldaIndy 0xFF, .ldxAbsy 0xFFFF, .ldyZpx 0xFF, .adcZpi 0xFF, .sbcIndx 0xFF, .cmpAbsx 0xFFFF,
      .cpxAbs 0xFFFF, .cpyImm 0xFF, .andAbs 0, .oraImm 0xFF, .eorZp 0xFF, .bitAbsx 0xFFFF, .bitImm 0xC0],
      let s := { full .cmos65c02 with p := 0xF7 }
      WellFormed s.cfg.model i = true ∧ s.allReadable (s.dataReads i.operand) ∧ flag s.p .d = false := by
  simp only [allReadable_iff]; decide +kernel

/-- Statements `stores_write_one_byte_and_no_flag` and `store_to_sink_calls_the_sink`: each store, beside a sink and at one. -/
theorem test_witness_stores :
    (∀ e ∈ [(Instr.staIndy 0xFF, MemMode.indy 0xFF, (0x99 : Byte), (0x00FF : Nat)),
        (.stxZpy 0xFF, .zpy 0xFF, 0xFF, 0xFE), (.styAbs 0xFFFF, .abs 0xFFFF, 0xFF, 0xFFFF),
        (.stzAbsx 0xFFFF, .absx 0xFFFF, 0x00, 0x00FE)],
      let s := full .cmos65c02
      (e.1.mnemonic, e.2.2.1) ∈ [(Mnemonic.sta, s.a), (.stx, s.x), (.sty, s.y), (.stz, 0x00)] ∧
        e.1.operand = .mem e.2.1 ∧ WellFormed s.cfg.model e.1 = true ∧ s.allReadable (s.modeReads e.2.1) ∧
        s.storesTo (s.ea e.2.1).addr ⟨.lin, e.2.2.2⟩) ∧
    (∀ e ∈ [(Instr.staAbs 0x0300, MemMode.abs 0x0300, (0x00 : Byte)), (.stzAbs 0x0300, .abs 0x0300, 0x00)],
      (e.1.mnemonic, e.2.2) ∈ [(Mnemonic.sta, startSink.a), (.stx, startSink.x), (.sty, startSink.y), (.stz, 0x00)] ∧
        e.1.operand = .mem e.2.1 ∧ WellFormed startSink.cfg.model e.1 = true ∧
        startSink.allReadable (startSink.modeReads e.2.1) ∧ startSink.sinkAt (startSink.ea e.2.1).addr = some 0) ∧
    (∀ e ∈ [(Instr.incAbs 0x0300, MemMode.abs 0x0300), (.trbAbs 0x0300, .abs 0x0300), (.rorAbs 0x0300, .abs 0x0300)],
      e.1.operand = .mem e.2 ∧ WellFormed startSink.cfg.model e.1 = true ∧
        startSink.allReadable (startSink.modeReads e.2 ++ [(startSink.ea e.2).addr]) ∧
        startSink.sinkAt (startSink.ea e.2).addr = some 0) ∧
    (∀ i ∈ [Instr.pha, .php, .phx, .phy],
      let s := { State.reset with cfg := { Config.atReset with sinks := [(0x01FF, 7)] } }
      WellFormed s.cfg.model i = true ∧ s.sinkAt (w16 0x01 s.sp) = some 7) := by
  simp only [allReadable_iff, State.storesTo]; decide +kernel

/-- Linear memory of `size` bytes with the sink 7 at `a`, SP at the top of page 1. -/
def startSinkAt (size : Nat) (a : Addr) : State :=
  { State.reset with cfg := { Config.atReset with backend := .linear size, sinks := [(a, 7)] } }

/-- Statement `store_to_sink_calls_the_sink`: JSR with a sink at either stack address, and an outcome of each kind that depends
on no free value. -/
theorem test_witness_jsr_to_sink :
    (∀ s ∈ [startSinkAt 65536 0x01FF, startSinkAt 65536 0x01FE, startSinkAt 0x0100 0x01FE],
      s.allReadable [s.pc, s.pc + 1] ∧
        (s.sinkAt (w16 0x01 s.sp) ≠ none ∨ s.sinkAt (w16 0x01 (s.sp - 1)) ≠ none)) ∧
    (∀ s ∈ [startSinkAt 65536 0x01FE], ((s.counted [s.pc, s.pc + 1]).stored (w16 0x01 s.sp) 0x08).1 = none) ∧
    ∀ s ∈ [startSinkAt 0x0100 0x01FE],
      ((s.counted [s.pc, s.pc + 1]).stored (w16 0x01 s.sp) 0x08).1 = some (.outOfRange 0x01FF .store) := by
  simp only [allReadable_iff]; decide +kernel

/-- Statement `adc_sbc_decimal_result_and_carry`: BCD operands at both ends. -/
theorem test_witness_decimal :
    ∀ i ∈ [Instr.adcImm 0x99, .sbcImm 0x99, .adcImm 0x00, .sbcAbs 0xFFFF],
      let s := full .nmos6502
      WellFormed s.cfg.model i = true ∧ s.allReadable (s.dataReads i.operand) ∧ flag s.p .d = true ∧
        isBCD s.a = true ∧ isBCD (s.operandValue i.operand) = true := by
  simp only [allReadable_iff]; decide +kernel

/-- Statement `invalid_bcd_operand_faults`: each of the four nibbles at 10. -/
theorem test_witness_invalid_bcd :
    ∀ e ∈ [((0xA0 : Byte), Instr.adcImm 0x00), (0x0A, .sbcImm 0x99), (0x99, .adcImm 0xA0), (0x99, .sbcImm 0x0A)],
      let s := { full .nmos6502 with a := e.1 }
      e.2.mnemonic ∈ [Mnemonic.adc, .sbc] ∧ WellFormed s.cfg.model e.2 = true ∧
        s.allReadable (s.dataReads e.2.operand) ∧ flag s.p .d = true ∧
        (9 < s.a.toNat / 16 ∨ 9 < s.a.toNat % 16 ∨ 9 < (s.operandValue e.2.operand).toNat / 16 ∨
          9 < (s.operandValue e.2.operand).toNat % 16) := by
  simp only [allReadable_iff]; decide +kernel

/-- Statements `inc_dec_memory_result`, `shifts_memory_result_and_carry` and `trb_tsb_rmb_smb_result`: RMW instructions and where they store. -/
theorem test_witness_rmw :
    ∀ e ∈ [(Instr.incAbsx 0xFFFF, MemMode.absx 0xFFFF, (0x00FE : Nat)), (.decZp 0xFF, .zp 0xFF, 0x00FF),
        (.aslAbsx 0x20FF, .absx 0x20FF, 0x21FE), (.lsrZpx 0xFF, .zpx 0xFF, 0xFE), (.rolAbs 0, .abs 0, 0),
        (.rorZp 0, .zp 0, 0), (.trbAbs 0xFFFF, .abs 0xFFFF, 0xFFFF), (.tsbZp 0, .zp 0, 0), (.rmb0 0xFF, .zp 0xFF, 0xFF),
        (.smb7 0xFF, .zp 0xFF, 0xFF)],
      let s := full .cmos65c02
      e.1.operand = .mem e.2.1 ∧ WellFormed s.cfg.model e.1 = true ∧ s.allReadable (s.modeReads e.2.1) ∧
        s.storesTo (s.ea e.2.1).addr ⟨.lin, e.2.2⟩ := by
  simp only [allReadable_iff, State.storesTo]; decide +kernel

/-- Statement `inc_dec_registers_result`. -/
theorem test_witness_cmos : (plain .cmos65c02).cfg.model = .cmos65c02 := rfl

/-- Statements `branch_not_taken_passes_its_offset`, `branch_taken_goes_to_its_target`: each branch both ways, offsets at both ends, PC at the top. -/
theorem test_witness_branches :
    (∀ e ∈ [(Instr.bpl 0x80, (0x80 : Byte)), (.bmi 0x7F, 0x00), (.bvc 0, 0x40), (.bvs 0, 0x00), (.bcc 0, 0x01),
        (.bcs 0, 0x00), (.bne 0, 0x02), (.beq 0, 0x00)],
      let p := e.2
      (e.1.mnemonic, false) ∈ [(Mnemonic.bpl, !flag p .n), (.bmi, flag p .n), (.bvc, !flag p .v), (.bvs, flag p .v),
        (.bcc, !flag p .c), (.bcs, flag p .c), (.bne, !flag p .z), (.beq, flag p .z)]) ∧
    (∀ e ∈ [(Instr.bpl 0x80, (0x80 : Byte), (0x00 : Byte)), (.bmi 0x7F, 0x7F, 0x80), (.bvc 0, 0, 0x00),
        (.bvs 0xFF, 0xFF, 0x40), (.bcc 0, 0, 0x00), (.bcs 0, 0, 0x01), (.bne 0, 0, 0x00), (.beq 0, 0, 0x02),
        (.bra 0x80, 0x80, 0x00)],
      let s := { plain .cmos65c02 with pc := 0xFFFF, p := e.2.2 }
      (e.1.mnemonic, true) ∈ [(Mnemonic.bpl, !flag s.p .n), (.bmi, flag s.p .n), (.bvc, !flag s.p .v),
        (.bvs, flag s.p .v), (.bcc, !flag s.p .c), (.bcs, flag s.p .c), (.bne, !flag s.p .z), (.beq, flag s.p .z),
        (.bra, true)] ∧ e.1.operand = .rel e.2.1 ∧ WellFormed s.cfg.model e.1 = true ∧ s.readable s.pc = true) := by
  decide +kernel

/-- Statement `bit_branches_test_one_bit`: each of the four cases. -/
theorem test_witness_bit_branches :
    (∀ e ∈ [(Instr.bbr0 0xFF 0x80, (0 : Fin 8)), (.bbs7 0xFF 0x7F, 7)],
      let s := plain .cmos65c02
      e.1.operand = .zprel 0xFF (if e.2 = 0 then 0x80 else 0x7F) ∧ WellFormed s.cfg.model e.1 = true ∧
        s.allReadable [s.pc, w16 0 0xFF] ∧ s.readable (s.pc + 1) = true ∧
        (s.peek (w16 0 0xFF)).getLsbD e.2.val = false ∧
        ((s.poke 0x00FF 0xFF).peek (w16 0 0xFF)).getLsbD e.2.val = true ∧
        (e.1.mnemonic = .bbr e.2 ∨ e.1.mnemonic = .bbs e.2)) := by
  simp only [allReadable_iff]; decide +kernel

/-- Statements `jumps_go_to_their_target`, `jsr_pushes_return_address_and_jumps`, `returns_pull_their_address`, `pushes_store_and_lower_sp`, `pulls_load_and_raise_sp`: pointers and stack pointers that wrap. -/
theorem test_witness_jumps_and_stack :
    (∀ m ∈ [CpuModel.nmos6502, .cmos65c02],
      let s := { plain m with x := 0xFF }
      s.allReadable [s.pc, s.pc + 1] ∧ s.cfg.model = m ∧
        s.allReadable [0x30FF, w16 (hi8 0x30FF) (lo8 0x30FF + 1)] ∧ s.allReadable [0xFFFF, 0xFFFF + 1] ∧
        s.allReadable [0xFF00 + w16 0 s.x, 0xFF00 + w16 0 s.x + 1]) ∧
    (∀ n ∈ [0x00, 0x01, 0xFC, 0xFF],
      let sp := BitVec.ofNat 8 n
      let s := { plain .cmos65c02 with sp := sp }
      s.allReadable [w16 0x01 (s.sp + 1), w16 0x01 (s.sp + 2), w16 0x01 (s.sp + 3)] ∧
        s.storesTo (w16 0x01 s.sp) ⟨.lin, 0x0100 + sp.toNat⟩ ∧
        s.storesTo (w16 0x01 (s.sp - 1)) ⟨.lin, 0x0100 + (sp - 1).toNat⟩ ∧
        ∀ i ∈ [Instr.pha, .php, .phx, .phy], WellFormed s.cfg.model i = true) := by
  simp only [allReadable_iff, State.storesTo]; decide +kernel

/-- Statement `push_stores_then_pop_increments_then_loads`: on every backend page 1 resolves, and on a small array it does not. -/
theorem test_witness_push_pop :
    (∀ b ∈ [Backend.linear 65536, .bankSwitched 1 1, .trackSector 8 0xDF00 0xDF01 0x01, .mmu 1],
      let s := { startOn b [] with sp := 0xFF }
      s.sinkAt (BitVec.ofNat 16 (0x0100 + s.sp.toNat)) = none ∧
        s.readable (BitVec.ofNat 16 (0x0100 + s.sp.toNat)) = true ∧
        s.readable (BitVec.ofNat 16 (0x0100 + (s.sp.toNat + 1) % 256)) = true) ∧
    memWrite 0x01FF 0 (startSmall 0x0100 0 []) = .error (.outOfRange 0x01FF .store) (startSmall 0x0100 0 []) ∧
    memRead 0x0100 (startSmall 0x0100 0 []) = .error (.outOfRange 0x0100 .load) (startSmall 0x0100 0 []) :=
  ⟨by decide +kernel, rfl, rfl⟩

/-- Statement `cycle_costs_of_the_default_table`: a cell of each penalty class, read off the table of R382. -/
theorem test_witness_cycle_costs :
    Config.atReset.cycleTable = [] ∧
    (∀ e ∈ [(Instr.bitAbsx 0xFFFF, (4, 4, PenaltyClass.page)), (.rorAbsx 0xFFFF, (7, 6, .c02page)),
        (.decAbsx 0, (7, 7, .none)), (.jmpInd 0, (5, 6, .none)), (.bra 0x80, (2, 2, .branch)),
        (.bbs7 0xFF 0x80, (5, 5, .bitbranch)), (.smb7 0xFF, (5, 5, .none)), (.staIndy 0, (6, 6, .none)),
        (.tsbAbs 0, (6, 6, .none)), (.plx, (4, 4, .none))],
      WellFormed .cmos65c02 e.1 = true ∧ timingCell e.1.mnemonic e.1.operand = e.2) := by decide

/-- Statements `load_and_store_touch_one_physical_byte`, `access_raises_one_counter_by_one`, `store_then_load_returns_the_byte`: an access that resolves, one that does not, and both kinds
that reach the backend, the counter at its last value. -/
theorem test_witness_accesses :
    (startSmall 0x1000 0 []).resolve 0x0FFF = some ⟨.lin, 0x0FFF⟩ ∧ (startSmall 0x1000 0 []).resolve 0x1000 = none ∧
    startSink.sinkAt 0x0301 = none ∧
    (∀ s : State, s = { startSink with counts := startSink.counts.write ⟨.lin, 0x0301⟩ 0xFFFFFFFFFFFFFFFF } →
      memRead 0x0301 s = .ok 0x00 (s.count ⟨.lin, 0x0301⟩) ∧
      memWrite 0x0301 0xFF s = .ok () (s.storeAt ⟨.lin, 0x0301⟩ 0xFF)) := by
  refine ⟨by decide +kernel, by decide +kernel, by decide +kernel, fun s h => ?_⟩
  subst h
  exact ⟨rfl, rfl⟩

/-- Statements `restore_brings_back_every_byte`, `load_program_places_the_payload`, `copies_check_their_range_and_read_in_order`, `busy_during_run_and_closed_after_close`, `run_and_init_write_only_their_registers`. -/
theorem test_witness_host :
    State.reset.status = .idle ∧ { State.reset with snap := some State.reset.mem }.snap = some State.reset.mem ∧
    State.reset.snap = none ∧ State.reset.cfg.backend = .linear 65536 ∧ State.reset.cfg.sinks = [] ∧
    State.reset.readable (w16 0xFF 0xFF + BitVec.ofNat 16 1) = true ∧ ([] : List Byte).length < 3 ∧
    State.reset.status ≠ .closed ∧ 0xFFFF < (0xFFFF : Addr).toNat + 2 - 1 ∧ (0xFFFF : Addr).toNat + 1 - 1 ≤ 0xFFFF ∧
    State.reset.allReadable ((List.range 1).map fun k => 0xFFFF + BitVec.ofNat 16 k) ∧
    (plain .nmos6502).status = .running ∧ { State.reset with status := .closed }.status = .closed ∧
    Backend.check State.reset.cfg.backend = none ∧
    { State.reset with commands := [.run 0x0800] }.commands = HostCommand.run 0x0800 :: [] := by
  simp only [allReadable_iff]; decide +kernel

/-- Statement `copies_check_their_range_and_read_in_order`: a transfer that completes at the top of memory, and one whose second
byte is out of range. -/
theorem test_witness_copies :
    ((List.range 1).map fun k => (0xFFFF : Addr) + BitVec.ofNat 16 k).map State.reset.resolve =
      [some ⟨.lin, 0xFFFF⟩] ∧
    isControlByte State.reset.cfg.backend ⟨.lin, 0xFFFF⟩ = false ∧
    (∀ s ∈ [startSmall 0x1000 0 []],
      s.allReadable ((List.range 1).map fun k => 0x0FFF + BitVec.ofNat 16 k) ∧
        s.readable (0x0FFF + BitVec.ofNat 16 1) = false ∧ (s.stored 0x0FFF 0x01).1 = none ∧
        ((s.stored 0x0FFF 0x01).2.stored 0x1000 0x02).1 = some (.outOfRange 0x1000 .store)) := by
  simp only [allReadable_iff]; decide +kernel

/-- Statements `cutoffs_pick_the_value_at_their_rank`, `cutoff_index_is_in_range`, `report_counts_once_and_reports_before`: ranges of one address and up to the top. -/
theorem test_witness_statistics :
    (0xFFFF : Addr).toNat ≤ (0xFFFF : Addr).toNat ∧ validFraction 0 = true ∧
    State.reset.allReadable (addrRange 0xFFFE 0xFFFF) ∧ ([0xFFFE, 0xFFFF].map State.reset.resolve).Nodup ∧
    State.reset.allReadable [0xFFFE, 0xFFFF] ∧
    (∀ alg ∈ [CutoffAlgorithm.absolute, .median], (State.reset.cutoff alg 0xFFFE 0xFFFF 0).toOption = some 0) ∧
    validFraction 0x7FF8000000000000 = false ∧ State.reset.resolve 0xFFFF = some ⟨.lin, 0xFFFF⟩ ∧
    (startSmall 0x1000 0 []).resolve 0x1000 = none ∧
    ¬(startSmall 0x1000 0 []).allReadable (addrRange 0x0FFF 0x1000) := by simp only [allReadable_iff]; decide +kernel

/-- R317: 0 is success, and a failed run, a refused command and a report that an address out of range has ended carry the code
of their kind. -/
theorem test_result_codes :
    HostReply.ok.code = 0 ∧ (HostReply.loaded 0x0800 3).code = 0 ∧ (HostReply.report [] none).code = 0 ∧
    (HostReply.failure (.invalidBCD 0x1A 0x01)).code = 3 ∧ (HostReply.error .busy).code = 21 ∧
    (HostReply.report [] (some (.met (.outOfRange 0x1000 .load)))).code = 2 := by decide

/-- Statements `state_after_construction_and_init`, `invariant_holds_after_construction`, `every_step_keeps_the_invariant`. -/
theorem test_witness_construction :
    construct Config.atReset = .ok State.reset ∧ memorySound Config.atReset.backend Config.atReset.initMem :=
  ⟨rfl, rfl, rfl⟩

theorem test_witness_inv : Inv State.reset ∧ ∃ t, step State.reset = .next t :=
  ⟨⟨⟨rfl, rfl⟩, ⟨rfl, rfl⟩, (fun _ h => nomatch h), rfl⟩, State.reset, rfl⟩

/-- Statements `only_listed_mnemonics_write_registers_and_flags`, `only_stored_addresses_change_memory`, `only_brk_ends_a_run_without_fault`: an instruction that stores nothing, one that stores one byte
and one that stores two, each without a fault and without a control byte. -/
theorem test_witness_frames :
    ∀ e ∈ [(Instr.txa, ([] : List Addr)), (.stzAbs 0xFFFF, [0xFFFF]), (.jsr 0x1234, [0x01FF, 0x01FE])],
      let s := plain .cmos65c02
      s.storeAddrs e.1 = e.2 ∧ (e.2.all fun a => decide (s.sinkAt a = none)) = true ∧
        (e.2.all fun a => (s.resolve a).toList.all fun ph => !isControlByte s.cfg.backend ph) = true ∧
        (match exec e.1 s with
          | .next t => decide (t.status ≠ .faulted)
          | .fault _ | .refused _ => false) = true := by decide +kernel


end Sys2Proof.Tests
end

section
/-! PROOFS. What a transaction, an instruction, a step and a host command keep: storage inside its arrays and canonical (R45,
R46, R64), and the fields no instruction writes (R41, R47, R310). The invariant of the machine follows from the two. -/

namespace Sys2Proof.Machine

/-! ## Where a piece of an instruction ends -/

theorem Run.Moves.of_ok {α : Type} {R : State → State → Prop} {x : Run α} {s t : State} {v : α} (h : Run.Moves R x)
    (hx : x s = .ok v t) : R s t := by
  have hs := h s
  rwa [Run.endState, hx] at hs

theorem Run.Moves.of_error {α : Type} {R : State → State → Prop} {x : Run α} {s t : State} {f : FaultRecord}
    (h : Run.Moves R x) (hx : x s = .error f t) : R s t := by
  have hs := h s
  rwa [Run.endState, hx] at hs

/-! ## Storage -/

/-- Memory and counters are canonical and inside the arrays of the backend: the part of `Inv` that transactions touch. -/
def StorageSound (s : State) : Prop :=
  memorySound s.cfg.backend s.mem ∧ memorySound s.cfg.backend s.counts

/-- A write at a place the resolver yields keeps a store of bytes or counters sound. -/
theorem memorySound_write {w : Nat} {m : Arrays w} {s : State} {a : Addr} {ph : Phys} (v : BitVec w)
    (hp : s.resolve a = some ph) (h : memorySound s.cfg.backend m) : memorySound s.cfg.backend (m.write ph v) :=
  ⟨Arrays.wf_write m ph v h.1, within_write _ m ph v h.2 (resolve_in_bounds _ _ a ph hp)⟩

theorem memorySound_empty (b : Backend) (w : Nat) : memorySound b ({} : Arrays w) := ⟨rfl, rfl⟩

/-- Every transaction and every register write keeps storage sound. -/
theorem respected_storageSound : Respected fun s t => StorageSound s → StorageSound t where
  refl _ h := h
  trans _ _ _ h h' := h' ∘ h
  regs _ _ _ _ _ _ _ _ h := h
  draw _ _ _ h := h
  count _ _ _ hp h := ⟨h.1, memorySound_write _ hp h.2⟩
  store s _ _ _ hp h := ⟨memorySound_write (s := s) _ hp h.1, memorySound_write (s := s) _ hp h.2⟩

/-! ## The fields no instruction writes -/

/-- Configuration, snapshot, pending commands and FAULT agree, and the status with them unless the run has halted. -/
structure SameControl (s t : State) : Prop where
  cfg      : t.cfg = s.cfg
  snap     : t.snap = s.snap
  commands : t.commands = s.commands
  fault    : t.fault = s.fault
  status   : t.status = s.status ∨ t.status = .halted

/-- `SameControl`, and the run goes on: the status and the results given to the host agree too. -/
structure SameRun (s t : State) : Prop extends SameControl s t where
  running : t.status = s.status
  replies : t.replies = s.replies

theorem SameControl.trans {s t u : State} (h : SameControl s t) (h' : SameControl t u) : SameControl s u where
  cfg := h'.cfg.trans h.cfg
  snap := h'.snap.trans h.snap
  commands := h'.commands.trans h.commands
  fault := h'.fault.trans h.fault
  status := by
    obtain e | e := h'.status
    · rw [e]; exact h.status
    · exact .inr e

/-- A state that differs from `s` in registers, storage, draws and sink calls only. -/
theorem SameRun.of_eq {s t : State} (hc : t.cfg = s.cfg) (hn : t.snap = s.snap) (hm : t.commands = s.commands)
    (hf : t.fault = s.fault) (hs : t.status = s.status) (hr : t.replies = s.replies) : SameRun s t :=
  ⟨⟨hc, hn, hm, hf, .inl hs⟩, hs, hr⟩

theorem respected_sameRun : Respected SameRun where
  refl _ := .of_eq rfl rfl rfl rfl rfl rfl
  trans _ _ _ h h' := ⟨h.toSameControl.trans h'.toSameControl, h'.running.trans h.running, h'.replies.trans h.replies⟩
  regs _ _ _ _ _ _ _ _ := .of_eq rfl rfl rfl rfl rfl rfl
  draw _ _ _ := .of_eq rfl rfl rfl rfl rfl rfl
  count _ _ _ _ := .of_eq rfl rfl rfl rfl rfl rfl
  store _ _ _ _ _ := .of_eq rfl rfl rfl rfl rfl rfl

theorem respected_sameControl : Respected SameControl where
  refl s := (respected_sameRun.refl s).toSameControl
  trans _ _ _ := SameControl.trans
  regs s a x y sp p pc n := (respected_sameRun.regs s a x y sp p pc n).toSameControl
  draw s n calls := (respected_sameRun.draw s n calls).toSameControl
  count s a ph hp := (respected_sameRun.count s a ph hp).toSameControl
  store s a ph v hp := (respected_sameRun.store s a ph v hp).toSameControl

theorem sameControl_haltRun (s : State) : SameControl s s.haltRun := ⟨rfl, rfl, rfl, rfl, .inr rfl⟩

/-- Two respected relations are respected together. -/
theorem Respected.and {R R' : State → State → Prop} (h : Respected R) (h' : Respected R') :
    Respected fun s t => R s t ∧ R' s t where
  refl s := ⟨h.refl s, h'.refl s⟩
  trans _ _ _ e e' := ⟨h.trans _ _ _ e.1 e'.1, h'.trans _ _ _ e.2 e'.2⟩
  regs s a x y sp p pc n := ⟨h.regs s a x y sp p pc n, h'.regs s a x y sp p pc n⟩
  draw s n calls := ⟨h.draw s n calls, h'.draw s n calls⟩
  count s a ph hp := ⟨h.count s a ph hp, h'.count s a ph hp⟩
  store s a ph v hp := ⟨h.store s a ph v hp, h'.store s a ph v hp⟩

/-! ## The invariant -/

theorem Inv.storage {s : State} (h : Inv s) : StorageSound s := ⟨h.mem, h.counts⟩

/-- The invariant after a change that keeps storage sound and configuration and snapshot as they are. -/
theorem Inv.of_sound {s t : State} (h : Inv s) (hm : StorageSound t) (hc : t.cfg = s.cfg) (hn : t.snap = s.snap)
    (hf : faultRecordAgrees t) : Inv t := by
  refine ⟨hm.1, hm.2, ?_, hf⟩
  rw [hc, hn]
  exact h.snap

/-- The invariant speaks of configuration, storage, snapshot, status and FAULT alone. -/
theorem Inv.of_eq {s t : State} (h : Inv s) (hc : t.cfg = s.cfg) (hm : t.mem = s.mem) (hk : t.counts = s.counts)
    (hn : t.snap = s.snap) (hs : t.status = s.status) (hf : t.fault = s.fault) : Inv t := by
  refine h.of_sound ?_ hc hn ?_
  · unfold StorageSound; rw [hc, hm, hk]; exact h.storage
  · unfold faultRecordAgrees; rw [hs, hf]; exact h.fault

/-- FAULT is empty while a run is in progress (R43). -/
theorem Inv.fault_eq_none {s : State} (h : Inv s) (hs : s.status = .running) : s.fault = none := by
  have hf := h.fault
  rwa [faultRecordAgrees, hs] at hf

/-- A run's step ends in a state that meets the invariant, whether it completes, halts or faults. -/
theorem Inv.stepInstr {s t : State} (h : Inv s) (hs : s.status = .running) (ht : Machine.stepInstr s = .next t) :
    Inv t := by
  obtain ⟨u, ⟨hsound, hc⟩, hend⟩ := (respected_storageSound.and respected_sameControl).stepInstr
    (fun s => ⟨id, sameControl_haltRun s⟩) s
  obtain ⟨n, hn⟩ | ⟨f, hf⟩ := hend
  · cases ht.symm.trans hn
    refine h.of_sound (hsound h.storage) hc.cfg hc.snap ?_
    have hnone : u.fault = none := hc.fault.trans (h.fault_eq_none hs)
    obtain e | e := hc.status
    · show faultRecordAgrees u
      rw [faultRecordAgrees, e, hs]; exact hnone
    · show faultRecordAgrees u
      rw [faultRecordAgrees, e]; exact hnone
  · cases ht.symm.trans hf
    exact h.of_sound (hsound h.storage) hc.cfg hc.snap (Option.some_ne_none f)

/-! ## Host commands -/

/-- What the transactions of a host command may do. -/
def HostMoves (s t : State) : Prop := (StorageSound s → StorageSound t) ∧ SameRun s t

theorem respected_hostMoves : Respected HostMoves := respected_storageSound.and respected_sameRun

theorem Inv.hostMoves {s t : State} (h : Inv s) (hm : HostMoves s t) : Inv t := by
  obtain ⟨hsound, hrun⟩ := hm
  refine h.of_sound (hsound h.storage) hrun.cfg hrun.snap ?_
  unfold faultRecordAgrees
  rw [hrun.running, hrun.fault]
  exact h.fault

theorem Respected.storeAll {R : State → State → Prop} (h : Respected R) (bytes : List Byte) (a : Addr) :
    Run.Moves R (storeAll a bytes) := by
  induction bytes generalizing a with
  | nil => exact h.ret ()
  | cons v rest ih => exact h.bind (h.memWrite a v) fun _ => ih (a + 1)

theorem Respected.loadAll {R : State → State → Prop} (h : Respected R) (n : Nat) (a : Addr) :
    Run.Moves R (loadAll a n) := by
  induction n generalizing a with
  | zero => exact h.ret []
  | succ n ih => exact h.bind (h.memRead a) fun _ => h.bind (ih (a + 1)) fun _ => h.ret _

theorem Respected.reportWalk {R : State → State → Prop} (h : Respected R) (c : Count)
    (labels : List (Addr × List String)) (addrs : List Addr) (s : State) :
    R s (Machine.reportWalk c labels addrs s).2.2 := by
  induction addrs generalizing s with
  | nil => exact h.refl s
  | cons a rest ih =>
    unfold Machine.reportWalk
    split
    · rename_i hr; exact (h.memRead a).of_error hr
    · rename_i t hr; exact h.trans _ _ _ ((h.memRead a).of_ok hr) (ih t)

theorem Respected.hostLoadProgram {R : State → State → Prop} (h : Respected R) (bytes : List Byte) (s : State) :
    R s (Machine.hostLoadProgram bytes s).2 := by
  unfold Machine.hostLoadProgram
  split
  · split
    · rename_i hr; exact (h.storeAll _ _).of_ok hr
    · rename_i hr; exact (h.storeAll _ _).of_error hr
  · exact h.refl s

theorem Respected.hostCopyToMem {R : State → State → Prop} (h : Respected R) (bytes : List Byte) (a : Addr)
    (s : State) : R s (Machine.hostCopyToMem bytes a s).2 := by
  unfold Machine.hostCopyToMem
  split
  · split
    · rename_i hr; exact (h.storeAll _ _).of_ok hr
    · rename_i hr; exact (h.storeAll _ _).of_error hr
  · exact h.refl s

theorem Respected.hostCopyFromMem {R : State → State → Prop} (h : Respected R) (a : Addr) (n : Nat) (s : State) :
    R s (Machine.hostCopyFromMem a n s).2 := by
  unfold Machine.hostCopyFromMem
  split
  · split
    · rename_i hr; exact (h.loadAll _ _).of_ok hr
    · rename_i hr; exact (h.loadAll _ _).of_error hr
  · exact h.refl s

theorem Respected.hostReport {R : State → State → Prop} (h : Respected R) (first last : Addr) (p : Fraction)
    (alg : CutoffAlgorithm) (labels : List (Addr × List String)) (s : State) :
    R s (Machine.hostReport first last p alg labels s).2 := by
  unfold Machine.hostReport
  split
  · exact h.refl s
  · exact h.reportWalk _ labels _ s

theorem hostCutoff_state (alg : CutoffAlgorithm) (first last : Addr) (p : Fraction) (s : State) :
    (hostCutoff alg first last p s).2 = s := by
  unfold hostCutoff
  split <;> rfl

theorem hostGetStatistics_state (a : Addr) (s : State) : (hostGetStatistics a s).2 = s := by
  unfold hostGetStatistics
  split <;> rfl

/-- `takeSnapshot` makes a snapshot of sound memory (R110). -/
theorem Inv.hostTakeSnapshot {s : State} (h : Inv s) : Inv (Machine.hostTakeSnapshot s).2 :=
  ⟨h.mem, h.counts, fun _ hm => Option.some.inj hm ▸ h.mem, h.fault⟩

/-- `restoreSnapshot` brings back a sound snapshot (R111). -/
theorem Inv.hostRestoreSnapshot {s : State} (h : Inv s) : Inv (Machine.hostRestoreSnapshot s).2 := by
  unfold Machine.hostRestoreSnapshot
  split
  · rename_i m hm
    exact ⟨h.snap m hm, h.counts, h.snap, h.fault⟩
  · exact h

/-- A command that is served keeps the invariant. -/
theorem Inv.serve {s : State} (h : Inv s) (c : HostCommand) : Inv (Machine.serve c s).2 := by
  have move {t : State} (hm : HostMoves s t) : Inv t := h.hostMoves hm
  cases c with
  | init => exact h.of_eq rfl rfl rfl rfl rfl rfl
  | loadProgram bytes => exact move (respected_hostMoves.hostLoadProgram bytes s)
  | run start => exact ⟨h.mem, h.counts, h.snap, rfl⟩
  | numCycles => exact h
  | copyToMem bytes a => exact move (respected_hostMoves.hostCopyToMem bytes a s)
  | copyFromMem a n => exact move (respected_hostMoves.hostCopyFromMem a n s)
  | takeSnapshot => exact h.hostTakeSnapshot
  | restoreSnapshot => exact h.hostRestoreSnapshot
  | getStatistics a => exact (hostGetStatistics_state a s).symm ▸ h
  | cutoffAbsolute first last p => exact (hostCutoff_state .absolute first last p s).symm ▸ h
  | cutoffMedian first last p => exact (hostCutoff_state .median first last p s).symm ▸ h
  | report first last p alg labels => exact move (respected_hostMoves.hostReport first last p alg labels s)
  | close => exact ⟨h.mem, h.counts, h.snap, trivial⟩

theorem Inv.hostCommand {s : State} (h : Inv s) (c : HostCommand) : Inv (Machine.hostCommand c s).2 := by
  unfold Machine.hostCommand
  split
  · exact h
  · exact h.serve c

/-- The step of an engine that is not running keeps the invariant. -/
theorem Inv.hostStep {s : State} (h : Inv s) : Inv (Machine.hostStep s) := by
  unfold Machine.hostStep
  split
  · exact h
  · rename_i c rest _
    have hs : Inv { s with commands := rest } := h.of_eq rfl rfl rfl rfl rfl rfl
    have hc := hs.hostCommand c
    split
    · rename_i r t hr
      rw [hr] at hc
      exact hc.of_eq rfl rfl rfl rfl rfl rfl
    · rename_i t hr
      rwa [hr] at hc

/-- What a step is: of an engine that runs, one instruction; of one that does not, one host command. -/
theorem step_next_cases {s t : State} (h : step s = .next t) :
    (s.status = .running ∧ stepInstr s = .next t) ∨ (s.status ≠ .running ∧ t = hostStep s) := by
  unfold step at h
  cases hb : Backend.check s.cfg.backend with
  | some p => rw [hb] at h; cases h
  | none =>
    rw [hb] at h
    cases hs : s.status with
    | running => rw [hs] at h; exact .inl ⟨rfl, h⟩
    | idle | halted | faulted | closed => rw [hs] at h; cases h; exact .inr ⟨nofun, rfl⟩

/-- Settles O57: a run's step moves along the two respected relations, a host command is served case by case. -/
theorem everyStepKeepsTheInvariant : Obligations.every_step_keeps_the_invariant := by
  unfold Obligations.every_step_keeps_the_invariant
  intro s t h ht
  obtain ⟨hs, hi⟩ | ⟨-, rfl⟩ := step_next_cases ht
  · exact h.stepInstr hs hi
  · exact h.hostStep

end Sys2Proof.Machine
end

section
/-! PROOFS. The construction (R56, R360, R361), the host commands that write registers alone (R57) and the refusals by status
(R42, R316). -/

namespace Sys2Proof

/-- A store of bytes or counters with nothing listed reads as `unlisted` everywhere (log entry 3). -/
theorem Arrays.read_empty {w : Nat} (ph : Phys) : ({} : Arrays w).read ph = unlisted w := by
  obtain ⟨arr, k⟩ := ph
  cases arr <;> rfl

end Sys2Proof

namespace Sys2Proof.Machine

/-! ## Construction -/

/-- Construction accepts exactly a valid backend, and then gives the constructed state (R316, R360). -/
theorem construct_eq_ok_iff (cfg : Config) (s : State) :
    construct cfg = .ok s ↔ Backend.check cfg.backend = none ∧ s = State.constructed cfg := by
  unfold construct
  cases Backend.check cfg.backend with
  | none => simp [eq_comm]
  | some p => simp

theorem inv_constructed {cfg : Config} (h : memorySound cfg.backend cfg.initMem) : Inv (State.constructed cfg) :=
  ⟨h, memorySound_empty _ _, nofun, rfl⟩

/-- Settles O55: construction gives the constructed state, whose counters are an empty list. -/
theorem stateAfterConstructionAndInit : Obligations.state_after_construction_and_init := by
  unfold Obligations.state_after_construction_and_init
  intro cfg s h
  obtain ⟨hb, rfl⟩ := (construct_eq_ok_iff cfg s).1 h
  exact ⟨hb, rfl, rfl, rfl, rfl, rfl, rfl, rfl, rfl, rfl, rfl, fun ph => ⟨rfl, Arrays.read_empty ph⟩⟩

/-- Settles O56: the memory of a construction is `INIT_MEM`, its counters and snapshot are empty; that of the reset state is
empty too. -/
theorem invariantHoldsAfterConstruction : Obligations.invariant_holds_after_construction := by
  unfold Obligations.invariant_holds_after_construction
  exact ⟨fun cfg => inv_constructed, inv_constructed (memorySound_empty _ _)⟩

/-! ## Admission (R42, R316) -/

theorem hostCommand_refused {c : HostCommand} {s : State} {e : HostError} (h : admission c s = some e) :
    hostCommand c s = (some (.error e), s) := by
  simp [hostCommand, h]

theorem hostCommand_admitted {c : HostCommand} {s : State} (h : admission c s = none) :
    hostCommand c s = serve c s := by
  simp [hostCommand, h]

theorem admission_closed (c : HostCommand) {s : State} (h : s.status = .closed) : admission c s = some .closed := by
  simp [admission, h]

theorem admission_running {c : HostCommand} {s : State} (h : s.status = .running) (hc : servedDuringRun c = false) :
    admission c s = some .busy := by
  simp [admission, h, hc]

theorem admission_outside_run (c : HostCommand) {s : State} (h : s.status ∈ [Status.idle, .halted, .faulted]) :
    admission c s = none := by
  simp only [List.mem_cons, List.not_mem_nil, or_false] at h
  obtain h | h | h := h <;> simp [admission, h]

/-- All commands but the three of the sink callbacks are refused during a run (R326). -/
theorem servedDuringRun_eq_false {c : HostCommand} (ht : ∀ bytes a, c ≠ .copyToMem bytes a)
    (hf : ∀ a n, c ≠ .copyFromMem a n) (hg : ∀ a, c ≠ .getStatistics a) : servedDuringRun c = false := by
  cases c with
  | copyToMem bytes a => exact absurd rfl (ht bytes a)
  | copyFromMem a n => exact absurd rfl (hf a n)
  | getStatistics a => exact absurd rfl (hg a)
  | init | loadProgram _ | run _ | numCycles | takeSnapshot | restoreSnapshot | cutoffAbsolute _ _ _
  | cutoffMedian _ _ _ | report _ _ _ _ _ | close => rfl

/-! ## What close calls (R105) -/

theorem nodup_eraseDups {α : Type} [DecidableEq α] (l : List α) : l.eraseDups.Nodup := by
  induction h : l.length using Nat.strongRecOn generalizing l with
  | ind n ih =>
    cases l with
    | nil => simp
    | cons a rest =>
      rw [List.eraseDups_cons, List.nodup_cons]
      refine ⟨by simp, ih _ ?_ _ rfl⟩
      have := List.length_filter_le (fun b => !b == a) rest
      simp only [List.length_cons] at h
      omega

/-- The calls of `close`: one on every sink of `SINKS`. -/
def closeCalls (cfg : Config) : List SinkCall := (cfg.sinks.map Prod.snd).eraseDups.map .close

theorem closeCalls_nodup (cfg : Config) : (closeCalls cfg).Nodup :=
  (nodup_eraseDups _).map fun _ _ h => SinkCall.close.inj h

theorem mem_closeCalls (cfg : Config) (call : SinkCall) :
    call ∈ closeCalls cfg ↔ ∃ e ∈ cfg.sinks, call = .close e.2 := by
  simp only [closeCalls, List.mem_map, List.mem_eraseDups]
  constructor
  · rintro ⟨_, ⟨e, he, rfl⟩, rfl⟩; exact ⟨e, he, rfl⟩
  · rintro ⟨e, he, rfl⟩; exact ⟨_, ⟨e, he, rfl⟩, rfl⟩

/-- Settles O50: the refusals are those of `admission`, the codes those of `HostReply.code`. -/
theorem busyDuringRunAndClosedAfterClose : Obligations.busy_during_run_and_closed_after_close := by
  unfold Obligations.busy_during_run_and_closed_after_close
  intro c s
  refine ⟨fun h ht hf hg => ?_, fun h => ?_, fun h => ⟨closeCalls s.cfg, closeCalls_nodup _, mem_closeCalls _, ?_⟩, ?_⟩
  · exact hostCommand_refused (admission_running h (servedDuringRun_eq_false ht hf hg))
  · exact hostCommand_refused (admission_closed c h)
  · rw [hostCommand_admitted (admission_outside_run .close h)]; rfl
  · intro a v w kind n count data lines param arg
    refine ⟨?_, ?_, ?_⟩ <;> simp [HostReply.code, HostError.code, FaultRecord.code]

/-! ## `run` and `init` -/

/-- With a valid configuration and outside a run, a step is one of the host port (R8). -/
theorem step_outside_run {s : State} (hs : s.status ∈ [Status.idle, .halted, .faulted])
    (hb : Backend.check s.cfg.backend = none) : step s = .next (hostStep s) := by
  simp only [List.mem_cons, List.not_mem_nil, or_false] at hs
  obtain h | h | h := hs <;> simp [step, hb, h]

/-- Settles O51: both commands are admitted outside a run, and the step takes the next entry of `commands`. -/
theorem runAndInitWriteOnlyTheirRegisters : Obligations.run_and_init_write_only_their_registers := by
  unfold Obligations.run_and_init_write_only_their_registers
  intro s start hs
  have hrun (s : State) (hs : s.status ∈ [Status.idle, .halted, .faulted]) :
      hostCommand (.run start) s = (none, s.startRun start) := hostCommand_admitted (admission_outside_run _ hs)
  refine ⟨hrun s hs, hostCommand_admitted (admission_outside_run _ hs), fun rest hb hc => ?_⟩
  rw [step_outside_run hs hb, hostStep, hc]
  simp only [hrun { s with commands := rest } hs]
  rfl

end Sys2Proof.Machine
end

section
/-! PROOFS. What an instruction leaves as it was: the fields of `SameControl` and `SameRun`, for all instructions at once, and
the registers and flags that its mnemonic is not listed for (R31 to R37), by the shape of the instruction and the value it
writes. -/

namespace Sys2Proof.Machine

/-! ## Fields of the run -/

theorem exec_sameControl {i : Instr} {s t : State} (h : exec i s = .next t) :
    t.cfg = s.cfg ∧ t.snap = s.snap ∧ t.commands = s.commands ∧ (t.status ≠ .faulted → t.fault = s.fault) := by
  obtain ⟨u, hc, ⟨n, hn⟩ | ⟨f, hf⟩⟩ := respected_sameControl.exec sameControl_haltRun i s
  · cases h.symm.trans hn
    exact ⟨hc.cfg, hc.snap, hc.commands, fun _ => hc.fault⟩
  · cases h.symm.trans hf
    exact ⟨hc.cfg, hc.snap, hc.commands, fun hne => absurd rfl hne⟩

theorem exec_sameRun {i : Instr} {s t : State} (h : exec i s = .next t) (hb : i ≠ .brk) (hne : t.status ≠ .faulted) :
    t.status = s.status ∧ t.replies = s.replies := by
  obtain ⟨u, hr, ⟨n, hn⟩ | ⟨f, hf⟩⟩ := respected_sameRun.exec_running hb s
  · cases h.symm.trans hn
    exact ⟨hr.running, hr.replies⟩
  · cases h.symm.trans hf
    exact absurd rfl hne

/-- Settles O60: BRK is the one instruction that does not move along `SameRun`. -/
theorem onlyBrkEndsARunWithoutFault : Obligations.only_brk_ends_a_run_without_fault := by
  unfold Obligations.only_brk_ends_a_run_without_fault
  intro i s t h
  obtain ⟨hcfg, hsnap, hcommands, hfault⟩ := exec_sameControl h
  exact ⟨hcfg, hsnap, hcommands, fun hne => ⟨hfault hne, fun hb => exec_sameRun h hb hne⟩⟩

/-! ## One flag of P -/

theorem Flag.mask_and_mask {f g : Flag} (h : g ≠ f) : f.mask &&& g.mask = 0 ∧ ~~~f.mask &&& g.mask = g.mask := by
  revert h
  cases f <;> cases g <;> decide

/-- Writing one flag leaves every other (R15). -/
theorem flag_setFlag_other {f g : Flag} (p : Byte) (v : Bool) (h : g ≠ f) : flag (setFlag p f v) g = flag p g := by
  obtain ⟨hor, hand⟩ := Flag.mask_and_mask h
  cases v with
  | true =>
    show ((p ||| f.mask) &&& g.mask != 0) = (p &&& g.mask != 0)
    simp [BitVec.and_or_distrib_right, hor]
  | false =>
    show (p &&& ~~~f.mask &&& g.mask != 0) = (p &&& g.mask != 0)
    rw [BitVec.and_assoc, hand]

/-! ## Writing at most the listed registers and flags -/

/-- What R31 to R34 and R37 list writers of. -/
inductive Slot
  | a
  | x
  | y
  | sp
  | flag (f : Flag)
  deriving DecidableEq

/-- The flags in which `q` differs from `p` are among `W`. -/
def FlagsOnly (W : Slot → Bool) (p q : Byte) : Prop := ∀ f, flag q f ≠ flag p f → W (.flag f) = true

/-- The registers and flags in which `t` differs from `s` are among `W`. -/
structure WritesOnly (W : Slot → Bool) (s t : State) : Prop where
  a  : t.a ≠ s.a → W .a = true
  x  : t.x ≠ s.x → W .x = true
  y  : t.y ≠ s.y → W .y = true
  sp : t.sp ≠ s.sp → W .sp = true
  p  : FlagsOnly W s.p t.p

section Writes

variable {W : Slot → Bool}

theorem FlagsOnly.refl (p : Byte) : FlagsOnly W p p := fun _ h => absurd rfl h

theorem FlagsOnly.trans {p q r : Byte} (h : FlagsOnly W p q) (h' : FlagsOnly W q r) : FlagsOnly W p r :=
  fun f hne => (hne.ne_or_ne (flag q f)).elim (h' f) fun e => h f e.symm

theorem FlagsOnly.setFlag {p q : Byte} (h : FlagsOnly W p q) {f : Flag} {v : Bool} (hf : W (.flag f) = true) :
    FlagsOnly W p (setFlag q f v) := by
  refine h.trans fun g hne => ?_
  by_cases hg : g = f
  · exact hg ▸ hf
  · exact absurd (flag_setFlag_other q v hg) hne

theorem FlagsOnly.setNZ {p q : Byte} (h : FlagsOnly W p q) {v : Byte} (hz : W (.flag .z) = true)
    (hn : W (.flag .n) = true) : FlagsOnly W p (setNZ q v) := (h.setFlag hz).setFlag hn

theorem FlagsOnly.compareFlags {p r m : Byte} (hc : W (.flag .c) = true) (hz : W (.flag .z) = true)
    (hn : W (.flag .n) = true) : FlagsOnly W p (compareFlags p r m) := by
  unfold Machine.compareFlags
  split
  · exact (((FlagsOnly.refl p).setFlag hz).setFlag hc).setFlag hn
  · exact (((FlagsOnly.refl p).setFlag hc).setFlag hz).setFlag hn

/-- C and then Z and N, as a shift or a rotation writes them. -/
theorem FlagsOnly.shift {p v : Byte} {c : Bool} (hc : W (.flag .c) = true) (hz : W (.flag .z) = true)
    (hn : W (.flag .n) = true) : FlagsOnly W p (Machine.setNZ (Machine.setFlag p .c c) v) :=
  ((FlagsOnly.refl p).setFlag hc).setNZ hz hn

theorem FlagsOnly.bitFlags {p a m : Byte} (hz : W (.flag .z) = true) (hn : W (.flag .n) = true)
    (hv : W (.flag .v) = true) : FlagsOnly W p (bitFlags p a m) :=
  (((FlagsOnly.refl p).setFlag hz).setFlag hn).setFlag hv

/-- A state whose five registers are those of `s`. -/
theorem WritesOnly.of_eq {s t : State} (ha : t.a = s.a) (hx : t.x = s.x) (hy : t.y = s.y) (hsp : t.sp = s.sp)
    (hp : t.p = s.p) : WritesOnly W s t :=
  ⟨fun h => absurd ha h, fun h => absurd hx h, fun h => absurd hy h, fun h => absurd hsp h, hp ▸ FlagsOnly.refl _⟩

theorem WritesOnly.refl (s : State) : WritesOnly W s s := .of_eq rfl rfl rfl rfl rfl

theorem WritesOnly.trans {s t u : State} (h : WritesOnly W s t) (h' : WritesOnly W t u) : WritesOnly W s u where
  a hne := (hne.ne_or_ne t.a).elim h'.a fun e => h.a e.symm
  x hne := (hne.ne_or_ne t.x).elim h'.x fun e => h.x e.symm
  y hne := (hne.ne_or_ne t.y).elim h'.y fun e => h.y e.symm
  sp hne := (hne.ne_or_ne t.sp).elim h'.sp fun e => h.sp e.symm
  p := h.p.trans h'.p

theorem WritesOnly.setPc (s : State) (v : Addr) : WritesOnly W s (s.setPc v) := .of_eq rfl rfl rfl rfl rfl

theorem WritesOnly.setSp (h : W .sp = true) (s : State) (v : Byte) : WritesOnly W s (s.setSp v) :=
  { WritesOnly.refl s with sp := fun _ => h }

/-- P becomes a byte that differs from the one it had in flags of `W` alone. -/
theorem WritesOnly.setP {s t : State} {q : Byte} (h : WritesOnly W s t) (hq : FlagsOnly W s.p q) :
    WritesOnly W s (t.setP q) := { h with p := hq }

theorem WritesOnly.setA {s t : State} {v : Byte} (h : WritesOnly W s t) (ha : W .a = true) :
    WritesOnly W s (t.setA v) := { h with a := fun _ => ha }

theorem WritesOnly.setAllFlags (h : ∀ f, W (.flag f) = true) (s : State) (v : Byte) : WritesOnly W s (s.setP v) :=
  (WritesOnly.refl s).setP fun f _ => h f

theorem WritesOnly.putFlag {f : Flag} (h : W (.flag f) = true) (v : Bool) (s : State) :
    WritesOnly W s (s.putFlag f v) := (WritesOnly.refl s).setP ((FlagsOnly.refl _).setFlag h)

theorem WritesOnly.loadA (ha : W .a = true) (hz : W (.flag .z) = true) (hn : W (.flag .n) = true) (s : State)
    (v : Byte) : WritesOnly W s (s.loadA v) := ((WritesOnly.refl s).setA ha).setP ((FlagsOnly.refl _).setNZ hz hn)

theorem WritesOnly.loadX (hx : W .x = true) (hz : W (.flag .z) = true) (hn : W (.flag .n) = true) (s : State)
    (v : Byte) : WritesOnly W s (s.loadX v) :=
  { WritesOnly.refl s with x := fun _ => hx, p := (FlagsOnly.refl _).setNZ hz hn }

theorem WritesOnly.loadY (hy : W .y = true) (hz : W (.flag .z) = true) (hn : W (.flag .n) = true) (s : State)
    (v : Byte) : WritesOnly W s (s.loadY v) :=
  { WritesOnly.refl s with y := fun _ => hy, p := (FlagsOnly.refl _).setNZ hz hn }

theorem WritesOnly.compare (hc : W (.flag .c) = true) (hz : W (.flag .z) = true) (hn : W (.flag .n) = true)
    (s : State) (r m : Byte) : WritesOnly W s (s.setP (compareFlags s.p r m)) :=
  (WritesOnly.refl s).setP (.compareFlags hc hz hn)

/-! ## Transactions write no register but PC and, on the stack, SP -/

/-- A piece of an instruction that writes registers and flags of `W` alone. -/
def Run.Writes {α : Type} (W : Slot → Bool) (x : Run α) : Prop := Run.Moves (WritesOnly W) x

theorem Run.Writes.memRead (a : Addr) : Run.Writes W (memRead a) := by
  intro s
  unfold Run.endState Machine.memRead
  cases s.resolve a with
  | none => exact .refl s
  | some ph => exact .of_eq rfl rfl rfl rfl rfl

theorem writesOnly_sinkAccess (s : State) (acc : SinkAccess) : WritesOnly W s (s.sinkAccess acc) := by
  cases acc with
  | load a | store a v =>
    unfold State.sinkAccess
    dsimp only
    cases s.resolve a with
    | none => exact .refl s
    | some ph => exact .of_eq rfl rfl rfl rfl rfl
  | handOn k a v => exact .of_eq rfl rfl rfl rfl rfl

theorem writesOnly_sinkAccesses (l : List SinkAccess) (s : State) :
    WritesOnly W s (l.foldl State.sinkAccess s) := by
  induction l generalizing s with
  | nil => exact .refl s
  | cons acc rest ih => exact (writesOnly_sinkAccess s acc).trans (ih _)

theorem writesOnly_stored (s : State) (a : Addr) (v : Byte) : WritesOnly W s (s.stored a v).2 := by
  unfold State.stored
  cases s.sinkAt a with
  | some k =>
    have hcall : WritesOnly W s { s with draws := s.draws + 1, sinkCalls := s.sinkCalls ++ [.write k a v] } :=
      .of_eq rfl rfl rfl rfl rfl
    exact hcall.trans (writesOnly_sinkAccesses _ _)
  | none =>
    cases s.resolve a with
    | none => exact .refl s
    | some ph => exact .of_eq rfl rfl rfl rfl rfl

theorem Run.Writes.memWrite (a : Addr) (v : Byte) : Run.Writes W (memWrite a v) := by
  intro s
  unfold Run.endState
  rw [memWrite_eq_stored]
  cases (s.stored a v).1 <;> exact writesOnly_stored s a v

theorem Run.Writes.bind {α β : Type} {x : Run α} {f : α → Run β} (hx : Run.Writes W x)
    (hf : ∀ v, Run.Writes W (f v)) : Run.Writes W (x >>= f) :=
  Run.Moves.bind (R := WritesOnly W) (fun _ _ _ h h' => h.trans h') hx hf

theorem Run.Writes.modified {f : State → State} (hf : ∀ s, WritesOnly W s (f s)) :
    Run.Writes W (modify f : Run Unit) := Run.Moves.modified hf

theorem Run.Writes.ret {α : Type} (v : α) : Run.Writes W (pure v : Run α) := Run.Moves.pure .refl v

theorem Run.Writes.get : Run.Writes W (get : Run State) := Run.Moves.get .refl

/-- A register write, and then the end of the instruction. -/
theorem Run.Writes.last {f : State → State} (hf : ∀ s, WritesOnly W s (f s)) (t : Timing) :
    Run.Writes W (modify f >>= fun _ => pure t : Run Timing) :=
  .bind (Run.Writes.modified hf) fun _ => .ret t

theorem Run.Writes.fetchByte : Run.Writes W fetchByte := by
  unfold Machine.fetchByte
  exact .bind .get fun _ => .bind (.memRead _) fun _ =>
    .bind (Run.Writes.modified fun s => .setPc s _) fun _ => .ret _

theorem Run.Writes.fetchOperand (b : Byte) : Run.Writes W (fetchOperand b) :=
  .bind .fetchByte fun _ => .ret b

theorem Run.Writes.fetchWord (a : Addr) : Run.Writes W (fetchWord a) :=
  .bind .fetchByte fun _ => .bind .fetchByte fun _ => .ret a

theorem Run.Writes.resolveEa (m : MemMode) : Run.Writes W (resolveEa m) := by
  unfold Machine.resolveEa
  cases m with
  | zp z => exact .bind (.fetchOperand z) fun _ => .ret _
  | zpx z | zpy z => exact .bind (.fetchOperand z) fun _ => .bind .get fun _ => .ret _
  | abs a => exact .bind (.fetchWord a) fun _ => .ret _
  | absx a | absy a => exact .bind (.fetchWord a) fun _ => .bind .get fun _ => .ret _
  | indx z =>
    exact .bind (.fetchOperand z) fun _ => .bind .get fun _ => .bind (.memRead _) fun _ =>
      .bind (.memRead _) fun _ => .ret _
  | indy z =>
    exact .bind (.fetchOperand z) fun _ => .bind (.memRead _) fun _ =>
      .bind (.memRead _) fun _ => .bind .get fun _ => .ret _
  | zpi z =>
    exact .bind (.fetchOperand z) fun _ => .bind (.memRead _) fun _ =>
      .bind (.memRead _) fun _ => .ret _

theorem Run.Writes.relBranch (c : Bool) (r : Byte) : Run.Writes W (relBranch c r) := by
  unfold Machine.relBranch
  cases c with
  | false => exact .last (fun s => .setPc s _) _
  | true => exact .bind (.fetchOperand r) fun _ => .bind .get fun _ => .last (fun s => .setPc s _) _

theorem Run.Writes.indirectTarget (a : Addr) : Run.Writes W (indirectTarget a) :=
  .bind (.fetchWord a) fun _ => .bind .get fun _ => .bind (.memRead _) fun _ =>
    .bind (.memRead _) fun _ => .ret _

theorem Run.Writes.indexedIndirectTarget (a : Addr) : Run.Writes W (indexedIndirectTarget a) :=
  .bind (.fetchWord a) fun _ => .bind .get fun _ => .bind (.memRead _) fun _ =>
    .bind (.memRead _) fun _ => .ret _

theorem Run.Writes.push (h : W .sp = true) (v : Byte) : Run.Writes W (push v) :=
  .bind .get fun _ => .bind (.memWrite _ v) fun _ => Run.Writes.modified fun s => .setSp h s _

theorem Run.Writes.pop (h : W .sp = true) : Run.Writes W pop :=
  .bind (Run.Writes.modified fun s => .setSp h s _) fun _ => .bind .get fun _ => .memRead _

/-! ## ADC and SBC -/

section Sums

variable (ha : W .a = true) (hc : W (.flag .c) = true) (hz : W (.flag .z) = true) (hn : W (.flag .n) = true)
  (hv : W (.flag .v) = true)
include ha hc hz hn hv

theorem Run.Writes.decimalResult (m : Byte) (r : Option (Byte × Bool)) :
    Run.Writes W (decimalResult m r) := by
  unfold Machine.decimalResult
  refine Run.Moves.get_bind fun s => ?_
  cases r with
  | none => exact .refl s
  | some vc =>
    have hp := ((((FlagsOnly.refl s.p).setFlag (v := vc.2) hc).setFlag (v := Config.freeFlag s.draws) hn).setFlag
      (v := Config.freeFlag (s.draws + 1)) hz).setFlag (v := Config.freeFlag (s.draws + 2)) hv
    exact { WritesOnly.refl s with a := fun _ => ha, p := hp }

theorem Run.Writes.binaryResult (r : Byte × Bool × Bool) :
    Run.Writes W (binaryResult r) :=
  Run.Writes.modified fun s =>
    ((WritesOnly.refl s).setA ha).setP ((((FlagsOnly.refl s.p).setFlag hc).setFlag hv).setNZ hz hn)

theorem Run.Writes.adc (m : Byte) : Run.Writes W (adc m) := by
  unfold Machine.adc
  refine .bind .get fun s => ?_
  split
  · exact .decimalResult ha hc hz hn hv m _
  · exact .binaryResult ha hc hz hn hv _

theorem Run.Writes.sbc (m : Byte) : Run.Writes W (sbc m) := by
  unfold Machine.sbc
  refine .bind .get fun s => ?_
  split
  · exact .decimalResult ha hc hz hn hv m _
  · exact .binaryResult ha hc hz hn hv _

end Sums

/-! ## Shapes -/

/-- Where the result is a next state that is not `Faulted`, it has written registers and flags of `W` alone. -/
def Sets (W : Slot → Bool) (s : State) (r : StepResult) : Prop :=
  ∀ t, r = .next t → t.status ≠ .faulted → WritesOnly W s t

theorem Sets.runInstr {op : Byte} {body : Run Timing} {s : State} (hb : Run.Writes W body) :
    Sets W s (runInstr op body s) := by
  intro t ht hne
  cases hs : body s with
  | ok c u =>
    cases ht.symm.trans (runInstr_ok hs)
    exact (hb.of_ok hs).trans (.of_eq rfl rfl rfl rfl rfl)
  | error f u =>
    cases ht.symm.trans (runInstr_error hs)
    exact absurd rfl hne

theorem Sets.cmosOnly {op : Byte} {meaning : State → StepResult} {s : State} (h : Sets W s (meaning s)) :
    Sets W s (cmosOnly op meaning s) := by
  cases hm : s.cfg.model with
  | cmos65c02 => rw [cmosOnly_cmos hm]; exact h
  | nmos6502 =>
    intro t ht hne
    cases ht.symm.trans (cmosOnly_nmos hm)
    exact absurd rfl hne

variable {op : Byte} {m : MemMode} {s : State}

theorem Sets.implied {f : State → State} (hf : ∀ s, WritesOnly W s (f s)) : Sets W s (implied op f s) :=
  .runInstr (.last hf _)

theorem Sets.readImm {v : Byte} {f : State → Byte → State} (hf : ∀ s v, WritesOnly W s (f s v)) :
    Sets W s (readImm op v f s) :=
  .runInstr (.bind (.fetchOperand v) fun _ => .last (fun s => hf s _) _)

theorem Sets.readMem {f : State → Byte → State} (hf : ∀ s v, WritesOnly W s (f s v)) :
    Sets W s (readMem op m f s) :=
  .runInstr (.bind (.resolveEa m) fun _ => .bind (.memRead _) fun _ => .last (fun s => hf s _) _)

theorem Sets.arithImm {v : Byte} {f : Byte → Run Unit} (hf : ∀ v, Run.Writes W (f v)) :
    Sets W s (arithImm op v f s) :=
  .runInstr (.bind .get fun _ => .bind (.fetchOperand v) fun _ => .bind (hf _) fun _ => .ret _)

theorem Sets.arithMem {f : Byte → Run Unit} (hf : ∀ v, Run.Writes W (f v)) :
    Sets W s (arithMem op m f s) :=
  .runInstr (.bind .get fun _ => .bind (.resolveEa m) fun _ => .bind (.memRead _) fun _ =>
    .bind (hf _) fun _ => .ret _)

theorem Sets.writeMem {v : State → Byte} : Sets W s (writeMem op m v s) :=
  .runInstr (.bind (.resolveEa m) fun _ => .bind .get fun _ => .bind (.memWrite _ _) fun _ =>
    .ret _)

/-- The new P is computed from the state before the store, which leaves P as it is. -/
theorem Sets.rmwMem {f : State → Byte → Byte × Byte} (hf : ∀ s v, FlagsOnly W s.p (f s v).2) :
    Sets W s (rmwMem op m f s) := by
  refine .runInstr (.bind (.resolveEa m) fun e => .bind (.memRead _) fun v =>
    Run.Moves.get_bind fun u => ?_)
  have hw : Run.Writes W (Machine.memWrite e.addr (f u v).1) := .memWrite _ _
  unfold Run.endState
  cases hs : memWrite e.addr (f u v).1 u with
  | ok _ t => rw [Run.bind_ok hs]; exact (hw.of_ok hs).setP (hf u v)
  | error g t => rw [Run.bind_error hs]; exact hw.of_error hs

theorem Sets.accumulator {f : State → Byte → Byte × Byte} (ha : W .a = true)
    (hf : ∀ s v, FlagsOnly W s.p (f s v).2) : Sets W s (accumulator op f s) :=
  .implied fun s => ((WritesOnly.refl s).setA ha).setP (hf s s.a)

theorem Sets.branch {c : Byte → Bool} {r : Byte} : Sets W s (branch op c r s) :=
  .runInstr (.bind .get fun _ => .relBranch _ r)

theorem Sets.bitBranch {b : Fin 8} {want : Bool} {z r : Byte} : Sets W s (bitBranch op b want z r s) :=
  .runInstr (.bind (.fetchOperand z) fun _ => .bind (.memRead _) fun _ => .relBranch _ r)

theorem Sets.pushByte {v : State → Byte} (h : W .sp = true) : Sets W s (pushByte op v s) :=
  .runInstr (.bind .get fun _ => .bind (.push h _) fun _ => .ret _)

theorem Sets.pullByte {f : State → Byte → State} (h : W .sp = true) (hf : ∀ s v, WritesOnly W s (f s v)) :
    Sets W s (pullByte op f s) :=
  .runInstr (.bind (.pop h) fun _ => .last (fun s => hf s _) _)

end Writes

/-! ## Every instruction -/

/-- What an instruction of a mnemonic writes: a shift or increment writes A in its accumulator form (`acc`), and BIT writes
Z alone in its immediate form (`imm`). -/
def mnemonicWrites (m : Mnemonic) (acc imm : Bool) : List Slot :=
  match m with
  | .lda | .txa | .tya | .and | .ora | .eor => [.a, .flag .z, .flag .n]
  | .ldx | .tax | .tsx | .inx | .dex => [.x, .flag .z, .flag .n]
  | .ldy | .tay | .iny | .dey => [.y, .flag .z, .flag .n]
  | .adc | .sbc => [.a, .flag .c, .flag .z, .flag .n, .flag .v]
  | .cmp | .cpx | .cpy => [.flag .c, .flag .z, .flag .n]
  | .inc | .dec => if acc then [.a, .flag .z, .flag .n] else [.flag .z, .flag .n]
  | .asl | .lsr | .rol | .ror =>
    if acc then [.a, .flag .c, .flag .z, .flag .n] else [.flag .c, .flag .z, .flag .n]
  | .bit => if imm then [.flag .z] else [.flag .z, .flag .n, .flag .v]
  | .trb | .tsb => [.flag .z]
  | .txs | .pha | .php | .phx | .phy | .jsr | .rts => [.sp]
  | .pla => [.sp, .a, .flag .z, .flag .n]
  | .plx => [.sp, .x, .flag .z, .flag .n]
  | .ply => [.sp, .y, .flag .z, .flag .n]
  | .plp | .rti => [.sp, .flag .c, .flag .z, .flag .i, .flag .d, .flag .b, .flag .u, .flag .v, .flag .n]
  | .clc | .sec => [.flag .c]
  | .clv => [.flag .v]
  | .cld | .sed => [.flag .d]
  | .cli | .sei => [.flag .i]
  | .sta | .stx | .sty | .stz | .rmb _ | .smb _ | .bpl | .bmi | .bvc | .bvs | .bcc | .bcs | .bne | .beq | .bra | .bbr _
  | .bbs _ | .jmp | .brk | .nop => []

/-- What an instruction writes. -/
def writes (i : Instr) (k : Slot) : Bool :=
  decide (k ∈ mnemonicWrites i.mnemonic (decide (i.operand = .acc)) (decide (i.opcode = 0x89)))

/-- An instruction that takes no fault writes what the table of its mnemonic says. -/
theorem exec_sets_writes (i : Instr) (s : State) : Sets (writes i) s (exec i s) := by
  cases i with
  | ldaImm _ => exact .readImm (.loadA rfl rfl rfl)
  | ldaZp _ | ldaZpx _ | ldaAbs _ | ldaAbsx _ | ldaAbsy _ | ldaIndx _ | ldaIndy _ =>
    exact .readMem (.loadA rfl rfl rfl)
  | ldaZpi _ => exact .cmosOnly (.readMem (.loadA rfl rfl rfl))
  | ldxImm _ => exact .readImm (.loadX rfl rfl rfl)
  | ldxZp _ | ldxZpy _ | ldxAbs _ | ldxAbsy _ => exact .readMem (.loadX rfl rfl rfl)
  | ldyImm _ => exact .readImm (.loadY rfl rfl rfl)
  | ldyZp _ | ldyZpx _ | ldyAbs _ | ldyAbsx _ => exact .readMem (.loadY rfl rfl rfl)
  | staZp _ | staZpx _ | staAbs _ | staAbsx _ | staAbsy _ | staIndx _ | staIndy _ | stxZp _ | stxZpy _ | stxAbs _
  | styZp _ | styZpx _ | styAbs _ => exact .writeMem
  | staZpi _ | stzZp _ | stzZpx _ | stzAbs _ | stzAbsx _ => exact .cmosOnly .writeMem
  | tax | tsx | inx | dex => exact .implied fun s => .loadX rfl rfl rfl s _
  | tay | iny | dey => exact .implied fun s => .loadY rfl rfl rfl s _
  | txa | tya => exact .implied fun s => .loadA rfl rfl rfl s _
  | txs => exact .implied fun s => .setSp rfl s _
  | adcImm _ => exact .arithImm (.adc rfl rfl rfl rfl rfl)
  | adcZp _ | adcZpx _ | adcAbs _ | adcAbsx _ | adcAbsy _ | adcIndx _ | adcIndy _ =>
    exact .arithMem (.adc rfl rfl rfl rfl rfl)
  | adcZpi _ => exact .cmosOnly (.arithMem (.adc rfl rfl rfl rfl rfl))
  | sbcImm _ => exact .arithImm (.sbc rfl rfl rfl rfl rfl)
  | sbcZp _ | sbcZpx _ | sbcAbs _ | sbcAbsx _ | sbcAbsy _ | sbcIndx _ | sbcIndy _ =>
    exact .arithMem (.sbc rfl rfl rfl rfl rfl)
  | sbcZpi _ => exact .cmosOnly (.arithMem (.sbc rfl rfl rfl rfl rfl))
  | cmpImm _ | cpxImm _ | cpyImm _ => exact .readImm fun s m => .compare rfl rfl rfl s _ m
  | cmpZp _ | cmpZpx _ | cmpAbs _ | cmpAbsx _ | cmpAbsy _ | cmpIndx _ | cmpIndy _ | cpxZp _ | cpxAbs _ | cpyZp _
  | cpyAbs _ => exact .readMem fun s m => .compare rfl rfl rfl s _ m
  | cmpZpi _ => exact .cmosOnly (.readMem fun s m => .compare rfl rfl rfl s _ m)
  | andImm _ | oraImm _ | eorImm _ => exact .readImm fun s _ => .loadA rfl rfl rfl s _
  | andZp _ | andZpx _ | andAbs _ | andAbsx _ | andAbsy _ | andIndx _ | andIndy _ | oraZp _ | oraZpx _ | oraAbs _
  | oraAbsx _ | oraAbsy _ | oraIndx _ | oraIndy _ | eorZp _ | eorZpx _ | eorAbs _ | eorAbsx _ | eorAbsy _ | eorIndx _
  | eorIndy _ => exact .readMem fun s _ => .loadA rfl rfl rfl s _
  | andZpi _ | oraZpi _ | eorZpi _ => exact .cmosOnly (.readMem fun s _ => .loadA rfl rfl rfl s _)
  | bitImm _ => exact .cmosOnly (.readImm fun s _ => (WritesOnly.refl s).setP ((FlagsOnly.refl s.p).setFlag rfl))
  | bitZp _ | bitAbs _ =>
    exact .readMem fun s _ => (WritesOnly.refl s).setP (.bitFlags rfl rfl rfl)
  | bitZpx _ | bitAbsx _ =>
    exact .cmosOnly (.readMem fun s _ =>
      (WritesOnly.refl s).setP (.bitFlags rfl rfl rfl))
  | incAcc | decAcc => exact .cmosOnly (.accumulator rfl fun s _ => (FlagsOnly.refl s.p).setNZ rfl rfl)
  | incZp _ | incZpx _ | incAbs _ | incAbsx _ | decZp _ | decZpx _ | decAbs _ | decAbsx _ =>
    exact .rmwMem fun s _ => (FlagsOnly.refl s.p).setNZ rfl rfl
  | aslAcc => exact .accumulator (f := fun s => aslValue s.p) rfl fun _ _ => .shift rfl rfl rfl
  | lsrAcc => exact .accumulator (f := fun s => lsrValue s.p) rfl fun _ _ => .shift rfl rfl rfl
  | rolAcc => exact .accumulator (f := fun s => rolValue s.p) rfl fun _ _ => .shift rfl rfl rfl
  | rorAcc => exact .accumulator (f := fun s => rorValue s.p) rfl fun _ _ => .shift rfl rfl rfl
  | aslZp _ | aslZpx _ | aslAbs _ | aslAbsx _ | lsrZp _ | lsrZpx _ | lsrAbs _ | lsrAbsx _ | rolZp _ | rolZpx _
  | rolAbs _ | rolAbsx _ | rorZp _ | rorZpx _ | rorAbs _ | rorAbsx _ =>
    exact .rmwMem fun _ _ => .shift rfl rfl rfl
  | trbZp _ | trbAbs _ | tsbZp _ | tsbAbs _ => exact .cmosOnly (.rmwMem fun s _ => (FlagsOnly.refl s.p).setFlag rfl)
  | rmb0 _ | rmb1 _ | rmb2 _ | rmb3 _ | rmb4 _ | rmb5 _ | rmb6 _ | rmb7 _ | smb0 _ | smb1 _ | smb2 _ | smb3 _
  | smb4 _ | smb5 _ | smb6 _ | smb7 _ => exact .cmosOnly (.rmwMem fun s _ => .refl s.p)
  | bpl _ => exact .branch (c := fun p => !flag p .n)
  | bmi _ => exact .branch (c := fun p => flag p .n)
  | bvc _ => exact .branch (c := fun p => !flag p .v)
  | bvs _ => exact .branch (c := fun p => flag p .v)
  | bcc _ => exact .branch (c := fun p => !flag p .c)
  | bcs _ => exact .branch (c := fun p => flag p .c)
  | bne _ => exact .branch (c := fun p => !flag p .z)
  | beq _ => exact .branch (c := fun p => flag p .z)
  | bra _ => exact .cmosOnly .branch
  | bbr0 _ _ | bbr1 _ _ | bbr2 _ _ | bbr3 _ _ | bbr4 _ _ | bbr5 _ _ | bbr6 _ _ | bbr7 _ _ | bbs0 _ _ | bbs1 _ _
  | bbs2 _ _ | bbs3 _ _ | bbs4 _ _ | bbs5 _ _ | bbs6 _ _ | bbs7 _ _ => exact .cmosOnly .bitBranch
  | jmpAbs a => exact .runInstr (.bind (.fetchWord a) fun _ => .last (fun s => .setPc s _) _)
  | jmpInd a => exact .runInstr (.bind (.indirectTarget a) fun _ => .last (fun s => .setPc s _) _)
  | jmpAix a =>
    exact .cmosOnly (.runInstr (.bind (.indexedIndirectTarget a) fun _ => .last (fun s => .setPc s _) _))
  | jsr a =>
    exact .runInstr (.bind (.fetchWord a) fun _ => .bind .get fun _ => .bind (.push rfl _) fun _ =>
      .bind (.push rfl _) fun _ => .last (fun s => .setPc s _) _)
  | rts =>
    exact .runInstr (.bind (.pop rfl) fun _ => .bind (.pop rfl) fun _ =>
      .last (fun s => .setPc s _) _)
  | rti =>
    have all (f : Flag) : writes .rti (.flag f) = true := by cases f <;> rfl
    exact .runInstr (.bind (.pop rfl) fun _ =>
      .bind (Run.Writes.modified fun s => .setAllFlags all s _) fun _ => .bind (.pop rfl) fun _ =>
      .bind (.pop rfl) fun _ => .last (fun s => .setPc s _) _)
  | brk => exact .implied fun _ => .of_eq rfl rfl rfl rfl rfl
  | nop => exact .implied .refl
  | pha | php => exact .pushByte rfl
  | phx | phy => exact .cmosOnly (.pushByte rfl)
  | pla => exact .pullByte rfl (.loadA rfl rfl rfl)
  | plp => exact .pullByte rfl (.setAllFlags fun f => by cases f <;> rfl)
  | plx => exact .cmosOnly (.pullByte rfl (.loadX rfl rfl rfl))
  | ply => exact .cmosOnly (.pullByte rfl (.loadY rfl rfl rfl))
  | clc | cld | cli | clv | sec | sed | sei => exact .implied (.putFlag rfl _)

/-! ## The writers of each register and flag -/

/-- The rules R31 to R34 and R37, register by register: whether the mnemonic is among the writers. -/
def listedWriter (m : Mnemonic) (acc imm : Bool) : Slot → Bool
  | .a => decide (m ∈ [.lda, .pla, .txa, .tya, .adc, .sbc, .and, .ora, .eor]) ||
      (decide (m ∈ [.asl, .lsr, .rol, .ror, .inc, .dec]) && acc)
  | .x => decide (m ∈ [.ldx, .tax, .tsx, .inx, .dex, .plx])
  | .y => decide (m ∈ [.ldy, .tay, .iny, .dey, .ply])
  | .sp => decide (m ∈ [.txs, .pha, .php, .phx, .phy, .pla, .plp, .plx, .ply, .jsr, .rts, .rti])
  | .flag .c => decide (m ∈ [.adc, .sbc, .cmp, .cpx, .cpy, .asl, .lsr, .rol, .ror, .clc, .sec, .plp, .rti])
  | .flag .z => decide (m ∈
      [.lda, .ldx, .ldy, .tax, .tay, .txa, .tya, .tsx, .adc, .sbc, .and, .ora, .eor, .cmp, .cpx, .cpy, .bit, .inc,
        .dec, .inx, .iny, .dex, .dey, .asl, .lsr, .rol, .ror, .pla, .plx, .ply, .trb, .tsb, .plp, .rti])
  | .flag .n => !imm && decide (m ∈
      [.lda, .ldx, .ldy, .tax, .tay, .txa, .tya, .tsx, .adc, .sbc, .and, .ora, .eor, .cmp, .cpx, .cpy, .bit, .inc,
        .dec, .inx, .iny, .dex, .dey, .asl, .lsr, .rol, .ror, .pla, .plx, .ply, .plp, .rti])
  | .flag .v => !imm && decide (m ∈ [.adc, .sbc, .bit, .clv, .plp, .rti])
  | .flag .d => decide (m ∈ [.cld, .sed, .plp, .rti])
  | .flag .i => decide (m ∈ [.cli, .sei, .plp, .rti])
  | .flag .b | .flag .u => decide (m ∈ [.plp, .rti])

/-- What a mnemonic writes, it is a listed writer of: `mnemonicWrites` is the table of the rules by mnemonic. -/
theorem listedWriter_of_mnemonicWrites (m : Mnemonic) : ∀ acc imm : Bool, (imm = true → m = .bit) →
    ∀ k ∈ mnemonicWrites m acc imm, listedWriter m acc imm k = true := by
  cases m with
  | rmb _ | smb _ | bbr _ | bbs _ => exact fun _ _ _ _ hk => nomatch hk
  | _ => decide

/-- The immediate form of BIT is alone at its opcode (R147). -/
theorem mnemonic_eq_bit_of_opcode {i : Instr} (h : i.opcode = 0x89) : i.mnemonic = .bit := by
  cases i with
  | bitImm v => rfl
  | _ => exact absurd h (of_decide_eq_false rfl)

theorem listedWriter_of_writes {i : Instr} {k : Slot} (h : writes i k = true) :
    listedWriter i.mnemonic (decide (i.operand = .acc)) (decide (i.opcode = 0x89)) k = true :=
  listedWriter_of_mnemonicWrites _ _ _ (fun hi => mnemonic_eq_bit_of_opcode (of_decide_eq_true hi)) k
    (of_decide_eq_true h)

/-- Settles O58: an instruction writes what the table by mnemonic says, and that table is the lists of the rules. -/
theorem onlyListedMnemonicsWriteRegistersAndFlags :
    Obligations.only_listed_mnemonics_write_registers_and_flags := by
  unfold Obligations.only_listed_mnemonics_write_registers_and_flags
  intro i s t h hne
  obtain ⟨ha, hx, hy, hsp, hp⟩ := exec_sets_writes i s t h hne
  have listed {k : Slot} (hk : writes i k = true) := listedWriter_of_writes hk
  refine ⟨fun hc => ?_, fun hc => of_decide_eq_true (listed (hx hc)), fun hc => of_decide_eq_true (listed (hy hc)),
    fun hc => of_decide_eq_true (listed (hsp hc)), fun hc => of_decide_eq_true (listed (hp .c hc)),
    fun hc => of_decide_eq_true (listed (hp .z hc)), fun hc => ?_, fun hc => ?_,
    fun hc => of_decide_eq_true (listed (hp .d hc)), fun hc => of_decide_eq_true (listed (hp .i hc)), ?_⟩
  · have hl := listed (ha hc)
    rwa [listedWriter, Bool.or_eq_true, Bool.and_eq_true, decide_eq_true_eq, decide_eq_true_eq, decide_eq_true_eq] at hl
  · have hl := listed (hp .n hc)
    rwa [listedWriter, Bool.and_eq_true, Bool.not_eq_true', decide_eq_false_iff_not, decide_eq_true_eq] at hl
  · have hl := listed (hp .v hc)
    rwa [listedWriter, Bool.and_eq_true, Bool.not_eq_true', decide_eq_false_iff_not, decide_eq_true_eq] at hl
  · intro f hf hc
    simp only [List.mem_cons, List.not_mem_nil, or_false] at hf
    have hl := listed (hp f hc)
    obtain rfl | rfl := hf <;> exact of_decide_eq_true hl

end Sys2Proof.Machine
end

section
/-! PROOFS. The backend (20_memory.md): what one load and one store change (R63 to R66), that a store leaves its own address
where it was (R68), and the four resolvers with their fields as numbers (R71 to R93). -/

namespace Sys2Proof.Machine

/-! ## One access -/

theorem memRead_resolved {s : State} {a : Addr} {ph : Phys} (hp : s.resolve a = some ph) :
    memRead a s = .ok (s.mem.read ph) (s.count ph) := by
  simp [memRead, hp]

theorem memRead_unresolved {s : State} {a : Addr} (hp : s.resolve a = none) :
    memRead a s = .error (.outOfRange a .load) s := by
  simp [memRead, hp]

theorem backendStore_resolved {s : State} {a : Addr} {ph : Phys} (v : Byte) (hp : s.resolve a = some ph) :
    backendStore a v s = .ok () (s.storeAt ph v) := by
  simp [backendStore, hp]

theorem backendStore_unresolved {s : State} {a : Addr} (v : Byte) (hp : s.resolve a = none) :
    backendStore a v s = .error (.outOfRange a .store) s := by
  simp [backendStore, hp]

/-- Settles O41: each access by whether its address resolves. -/
theorem loadAndStoreTouchOnePhysicalByte : Obligations.load_and_store_touch_one_physical_byte := by
  unfold Obligations.load_and_store_touch_one_physical_byte
  intro s a v
  refine ⟨fun ph hp => ⟨memRead_resolved hp, s.storeAt ph v, backendStore_resolved v hp, rfl, fun _ => rfl⟩,
    fun hp => ⟨memRead_unresolved hp, backendStore_unresolved v hp⟩⟩

/-! ## One counter -/

/-- `t` has one access of the physical byte `ph` more than `s` (R63). -/
def CountedOnce (s t : State) (ph : Phys) : Prop :=
  (t.counts.read ph).toNat = ((s.counts.read ph).toNat + 1) % 2 ^ 64 ∧
    ∀ ph' : Phys, ph' ≠ ph → t.counts.read ph' = s.counts.read ph'

theorem countedOnce_count (s : State) (ph : Phys) : CountedOnce s (s.count ph) ph := by
  constructor
  · rw [State.count_counts, Arrays.read_write_same, BitVec.toNat_add]
    rfl
  · exact fun ph' hne => Arrays.read_write_other s.counts _ hne

theorem countedOnce_storeAt (s : State) (ph : Phys) (v : Byte) : CountedOnce s (s.storeAt ph v) ph :=
  countedOnce_count s ph

/-- An access that raises a fault leaves the state as it was. -/
theorem state_eq_of_memRead_error {s t : State} {a : Addr} {f : FaultRecord} (h : memRead a s = .error f t) :
    t = s := by
  cases hp : s.resolve a with
  | none => cases h.symm.trans (memRead_unresolved hp); rfl
  | some ph => cases h.symm.trans (memRead_resolved hp)

theorem state_eq_of_memWrite_error {s t : State} {a : Addr} {v : Byte} {f : FaultRecord} (hs : s.sinkAt a = none)
    (h : memWrite a v s = .error f t) : t = s := by
  cases hp : s.resolve a with
  | none => cases h.symm.trans (memWrite_error v hs hp); rfl
  | some ph => cases h.symm.trans (memWrite_ok v hs hp)

/-- Settles O42: the one access counts its byte, and a fault leaves the whole state. -/
theorem accessRaisesOneCounterByOne : Obligations.access_raises_one_counter_by_one := by
  unfold Obligations.access_raises_one_counter_by_one
  intro s t a v
  constructor
  · rintro ph hp (⟨b, h⟩ | ⟨hs, h⟩)
    · cases h.symm.trans (memRead_resolved hp)
      exact countedOnce_count s ph
    · cases h.symm.trans (memWrite_ok v hs hp)
      exact countedOnce_storeAt s ph v
  · rintro f (h | ⟨hs, h⟩)
    · rw [state_eq_of_memRead_error h]
    · rw [state_eq_of_memWrite_error hs h]

/-! ## The resolvers -/

theorem resolveLinear_eq (size : Nat) (m : Memory) (a : Addr) :
    resolve (.linear size) m a = if a.toNat < min size 65536 then some ⟨.lin, a.toNat⟩ else none := rfl

theorem resolveBankSwitched_low (ram rom : Nat) (m : Memory) {a : Addr} (h : a.toNat < 0xA000) :
    resolve (.bankSwitched ram rom) m a = some ⟨.low, a.toNat⟩ := by
  rw [resolve, resolveBankSwitched, if_pos h]

theorem resolveBankSwitched_ram (ram rom : Nat) (m : Memory) {a : Addr} (h : 0xA000 ≤ a.toNat) (h' : a.toNat ≤ 0xBFFF) :
    resolve (.bankSwitched ram rom) m a =
      if ramSel m < ram then some ⟨.ramb, ramSel m * 0x2000 + (a.toNat - 0xA000)⟩ else none := by
  rw [resolve, resolveBankSwitched, if_neg (by omega), if_pos h']

theorem resolveBankSwitched_rom (ram rom : Nat) (m : Memory) {a : Addr} (h : 0xC000 ≤ a.toNat) :
    resolve (.bankSwitched ram rom) m a =
      if romSel m < rom then some ⟨.romb, romSel m * 0x4000 + (a.toNat - 0xC000)⟩ else none := by
  rw [resolve, resolveBankSwitched, if_neg (by omega), if_neg (by omega)]

/-- ROM_SEL takes the low five bits of its byte (R51). -/
theorem romSel_eq (m : Memory) : romSel m = (m.read ⟨.low, 1⟩).toNat % 32 :=
  (BitVec.toNat_and _ _).trans (Nat.and_two_pow_sub_one_eq_mod _ 5)

/-- Settles O44: the regions one by one. -/
theorem linearAndBankedResolution : Obligations.linear_and_banked_resolution := by
  unfold Obligations.linear_and_banked_resolution
  intro m a size ram rom
  refine ⟨resolveLinear_eq size m a, resolveBankSwitched_low ram rom m, resolveBankSwitched_ram ram rom m, fun h => ?_⟩
  rw [resolveBankSwitched_rom ram rom m h, romSel_eq]

/-- The index of R82 is the number with the digits track, sector and offset: the shifted parts do not overlap. -/
theorem trackSectorIndex_eq (sb : Nat) (track sector offset : Byte) :
    trackSectorIndex sb track sector offset =
      (track.toNat % 64 * 2 ^ sb + sector.toNat % 2 ^ sb) * 256 + offset.toNat := by
  have htrack : (track &&& 0x3F).toNat = track.toNat % 64 :=
    (BitVec.toNat_and _ _).trans (Nat.and_two_pow_sub_one_eq_mod _ 6)
  have hsector : sector.toNat &&& (2 ^ sb - 1) = sector.toNat % 2 ^ sb := Nat.and_two_pow_sub_one_eq_mod _ sb
  rw [trackSectorIndex, htrack, hsector, ← Nat.shiftLeft_add_eq_or_of_lt (Nat.mod_lt _ (Nat.two_pow_pos sb)),
    ← Nat.shiftLeft_add_eq_or_of_lt offset.isLt, Nat.shiftLeft_eq, Nat.shiftLeft_eq]

theorem hi8_eq_iff (a : Addr) (page : Byte) : hi8 a = page ↔ a.toNat / 256 = page.toNat := by
  rw [← BitVec.toNat_inj, hi8_toNat]

theorem resolveTrackSector_window (bits : Int) (track sector : Addr) {page : Byte} (m : Memory) {a : Addr}
    (h : hi8 a = page) :
    resolve (.trackSector bits track sector page) m a =
      some ⟨.ind, trackSectorIndex (sectorBits bits) (m.read ⟨.base, track.toNat⟩) (m.read ⟨.base, sector.toNat⟩)
        (lo8 a)⟩ := by
  rw [resolve, resolveTrackSector, if_pos h]

theorem resolveTrackSector_base (bits : Int) (track sector : Addr) {page : Byte} (m : Memory) {a : Addr}
    (h : hi8 a ≠ page) : resolve (.trackSector bits track sector page) m a = some ⟨.base, a.toNat⟩ := by
  rw [resolve, resolveTrackSector, if_neg h]

/-- Settles O45: the index as a number, and its bound from `trackSectorIndex_lt`. -/
theorem trackSectorResolution : Obligations.track_sector_resolution := by
  unfold Obligations.track_sector_resolution
  intro m a track sector bits page sb t s offset index
  have hindex : trackSectorIndex (sectorBits bits) (m.read ⟨.base, track.toNat⟩) (m.read ⟨.base, sector.toNat⟩)
      (lo8 a) = index := by
    rw [trackSectorIndex_eq, lo8_toNat]
    rfl
  refine ⟨fun h => ⟨?_, ?_⟩, fun h => resolveTrackSector_base bits track sector m (mt (hi8_eq_iff a page).1 h)⟩
  · rw [resolveTrackSector_window bits track sector m ((hi8_eq_iff a page).2 h), hindex]
  · exact hindex ▸ trackSectorIndex_lt (sectorBits bits) _ _ _

/-! ## The MMU -/

theorem editEn_iff (m : Memory) : editEn m = true ↔ 128 ≤ (m.read ⟨.ctrl, 0⟩).toNat := by
  have h := (memCtrl m).isLt
  show (memCtrl m).getLsbD 7 = true ↔ 128 ≤ (memCtrl m).toNat
  rw [BitVec.getLsbD, Nat.testBit_eq_decide_div_mod_eq, decide_eq_true_eq]
  omega

theorem editLut_eq (m : Memory) : editLut m = (m.read ⟨.ctrl, 0⟩).toNat / 16 % 4 := by
  rw [editLut, memCtrl, BitVec.extractLsb'_toNat, Nat.shiftRight_eq_div_pow]

theorem actLut_eq (m : Memory) : actLut m = (m.read ⟨.ctrl, 0⟩).toNat % 4 := by
  rw [actLut, memCtrl, BitVec.extractLsb'_toNat, Nat.shiftRight_zero]

theorem ioDisable_eq_false_iff (m : Memory) : ioDisable m = false ↔ (m.read ⟨.ctrl, 1⟩).toNat / 4 % 2 = 0 := by
  rw [ioDisable, ioCtrl, BitVec.getLsbD, Nat.testBit_eq_decide_div_mod_eq, decide_eq_false_iff_not]
  omega

theorem ioPage_eq (m : Memory) : ioPage m = (m.read ⟨.ctrl, 1⟩).toNat % 4 := by
  rw [ioPage, ioCtrl, BitVec.extractLsb'_toNat, Nat.shiftRight_zero]

theorem resolveMmu_memCtrl (pages : Nat) (m : Memory) : resolve (.mmu pages) m 0 = some ⟨.ctrl, 0⟩ := rfl

theorem resolveMmu_ioCtrl (pages : Nat) (m : Memory) : resolve (.mmu pages) m 1 = some ⟨.ctrl, 1⟩ := rfl

/-- The edit window: line 3 of R86. -/
abbrev InEditWindow (m : Memory) (a : Addr) : Prop := 0x0008 ≤ a.toNat ∧ a.toNat ≤ 0x000F ∧ editEn m = true

/-- The IO window: line 4 of R86. -/
abbrev InIoWindow (m : Memory) (a : Addr) : Prop := 0xC000 ≤ a.toNat ∧ a.toNat ≤ 0xDFFF ∧ ioDisable m = false

/-- Beyond the control registers only the last three lines of R86 are left. -/
theorem ne_ctrl_of_one_lt {a : Addr} (h : 1 < a.toNat) : a ≠ 0x0000 ∧ a ≠ 0x0001 := by
  constructor <;> rintro rfl <;> exact absurd h (by decide)

theorem resolveMmu_edit (pages : Nat) {m : Memory} {a : Addr} (h : InEditWindow m a) :
    resolve (.mmu pages) m a = some ⟨.lut, editLut m * 8 + (a.toNat - 0x0008)⟩ := by
  obtain ⟨h0, h1⟩ := ne_ctrl_of_one_lt (Nat.lt_of_lt_of_le (by decide) h.1)
  rw [resolve, resolveMmu, if_neg h0, if_neg h1, if_pos h]

theorem resolveMmu_io (pages : Nat) {m : Memory} {a : Addr} (h : InIoWindow m a) :
    resolve (.mmu pages) m a = some ⟨.io, ioPage m * 0x2000 + (a.toNat - 0xC000)⟩ := by
  have hlow := h.1
  obtain ⟨h0, h1⟩ := ne_ctrl_of_one_lt (Nat.lt_of_lt_of_le (by decide) hlow)
  rw [resolve, resolveMmu, if_neg h0, if_neg h1, if_neg (by omega), if_pos h]

theorem resolveMmu_page (pages : Nat) {m : Memory} {a : Addr} (h : 1 < a.toNat) (he : ¬InEditWindow m a)
    (hw : ¬InIoWindow m a) :
    resolve (.mmu pages) m a =
      if lutEntry m (actLut m) (a.toNat / 0x2000) < pages then
        some ⟨.sys, lutEntry m (actLut m) (a.toNat / 0x2000) * 0x2000 + a.toNat % 0x2000⟩
      else none := by
  obtain ⟨h0, h1⟩ := ne_ctrl_of_one_lt h
  rw [resolve, resolveMmu, if_neg h0, if_neg h1, if_neg he, if_neg hw]

/-- Settles O46: the lines of R86 with the fields of the control registers as numbers. -/
theorem mmuResolution : Obligations.mmu_resolution := by
  unfold Obligations.mmu_resolution
  intro m a pages ctrl io p edit window
  have hedit : InEditWindow m a ↔ edit := and_congr_right' (and_congr_right' (editEn_iff m))
  have hwindow : InIoWindow m a ↔ window := and_congr_right' (and_congr_right' (ioDisable_eq_false_iff m))
  refine ⟨fun h => ?_, fun h => ?_, fun h => ?_, fun h => ?_, fun h he hw => ?_⟩
  · rw [show a = 0 from BitVec.eq_of_toNat_eq h, resolveMmu_memCtrl]
  · rw [show a = 1 from BitVec.eq_of_toNat_eq h, resolveMmu_ioCtrl]
  · rw [resolveMmu_edit pages (hedit.2 h), editLut_eq]
  · rw [resolveMmu_io pages (hwindow.2 h), ioPage_eq]
  · rw [resolveMmu_page pages h (mt hedit.1 he) (mt hwindow.1 hw), actLut_eq]
    rfl

/-! ## A store and a load of one address -/

/-- A store through an address of the bank-switched backend leaves that address where it was: the low region does not depend
on memory, and the banks hold no control byte. -/
theorem resolveBankSwitched_write_self {ram rom : Nat} {m : Memory} {a : Addr} {ph : Phys} (v : Byte)
    (h : resolve (.bankSwitched ram rom) m a = some ph) : resolve (.bankSwitched ram rom) (m.write ph v) a = some ph := by
  by_cases hlow : a.toNat < 0xA000
  · rwa [resolveBankSwitched_low ram rom _ hlow] at h ⊢
  · refine (resolve_write _ m ph v a ?_).trans h
    by_cases hram : a.toNat ≤ 0xBFFF
    · rw [resolveBankSwitched_ram ram rom m (by omega) hram, Option.ite_none_right_eq_some] at h
      obtain ⟨-, ⟨⟩⟩ := h
      rfl
    · rw [resolveBankSwitched_rom ram rom m (by omega), Option.ite_none_right_eq_some] at h
      obtain ⟨-, ⟨⟩⟩ := h
      rfl

theorem resolveTrackSector_write_self {bits : Int} {track sector : Addr} {page : Byte} {m : Memory} {a : Addr} {ph : Phys}
    (v : Byte) (h : resolve (.trackSector bits track sector page) m a = some ph) :
    resolve (.trackSector bits track sector page) (m.write ph v) a = some ph := by
  by_cases hw : hi8 a = page
  · refine (resolve_write _ m ph v a ?_).trans h
    rw [resolveTrackSector_window bits track sector m hw] at h
    obtain ⟨⟩ := h
    rfl
  · rwa [resolveTrackSector_base bits track sector _ hw] at h ⊢

/-- The byte of an edited LUT is a control byte, but the edit window depends on MEM_CTRL alone. -/
theorem resolveMmu_write_self {pages : Nat} {m : Memory} {a : Addr} {ph : Phys} (v : Byte)
    (h : resolve (.mmu pages) m a = some ph) : resolve (.mmu pages) (m.write ph v) a = some ph := by
  by_cases hctrl : 1 < a.toNat
  · by_cases he : InEditWindow m a
    · rw [resolveMmu_edit pages he] at h
      obtain ⟨⟩ := h
      exact resolveMmu_edit pages (m := m.write ⟨.lut, _⟩ v) he
    · refine (resolve_write _ m ph v a ?_).trans h
      by_cases hw : InIoWindow m a
      · rw [resolveMmu_io pages hw] at h
        obtain ⟨⟩ := h
        rfl
      · rw [resolveMmu_page pages hctrl he hw, Option.ite_none_right_eq_some] at h
        obtain ⟨-, ⟨⟩⟩ := h
        rfl
  · obtain rfl | rfl : a = 0 ∨ a = 1 := by bv_omega
    · exact h
    · exact h

/-- A store leaves its own address where it was, whatever control byte it writes (R68). -/
theorem resolve_write_self {b : Backend} {m : Memory} {a : Addr} {ph : Phys} (v : Byte)
    (h : resolve b m a = some ph) : resolve b (m.write ph v) a = some ph := by
  cases b with
  | linear size => exact h
  | bankSwitched ram rom => exact resolveBankSwitched_write_self v h
  | trackSector bits track sector page => exact resolveTrackSector_write_self v h
  | mmu pages => exact resolveMmu_write_self v h

/-- Settles O43: the load after the store finds the byte at the same place. -/
theorem storeThenLoadReturnsTheByte : Obligations.store_then_load_returns_the_byte := by
  unfold Obligations.store_then_load_returns_the_byte
  intro s a v
  refine ⟨fun hs hr => ?_, fun sink hs => memWrite_sink v hs⟩
  obtain ⟨ph, hp⟩ := (s.readable_iff a).1 hr
  have hp' : (s.storeAt ph v).resolve a = some ph := resolve_write_self v hp
  refine ⟨s.storeAt ph v, (s.storeAt ph v).count ph, memWrite_ok v hs hp, ?_, rfl⟩
  rw [memRead_resolved hp', State.storeAt_mem, Arrays.read_write_same]

end Sys2Proof.Machine
end

section
/-! PROOFS. The host commands over memory: snapshot and restore (R110 to R113), and the transfers (R115 to R118) as the stores
and loads they make at consecutive addresses. -/

namespace Sys2Proof.Machine

/-- Settles O47: both commands are admitted outside a run. -/
theorem restoreBringsBackEveryByte : Obligations.restore_brings_back_every_byte := by
  unfold Obligations.restore_brings_back_every_byte
  intro s u hs hu
  refine ⟨hostCommand_admitted (admission_outside_run _ hs), fun h => ?_, fun h => ?_⟩ <;>
  · rw [hostCommand_admitted (admission_outside_run _ hu), serve, hostRestoreSnapshot, h]

/-! ## Consecutive addresses -/

/-- The `n` addresses from `a` on, modulo 2^16. -/
def addressesFrom (a : Addr) (n : Nat) : List Addr := (List.range n).map fun k => a + BitVec.ofNat 16 k

/-- Address `k + 1` from `a` on is address `k` from `a + 1` on. -/
theorem add_ofNat_succ (a : Addr) (k : Nat) : a + BitVec.ofNat 16 (k + 1) = a + 1 + BitVec.ofNat 16 k := by
  rw [Nat.add_comm k 1, BitVec.ofNat_add, ← BitVec.add_assoc]
  rfl

theorem add_ofNat_zero (a : Addr) : a + BitVec.ofNat 16 0 = a := BitVec.add_zero a

theorem addressesFrom_succ (a : Addr) (n : Nat) : addressesFrom a (n + 1) = a :: addressesFrom (a + 1) n := by
  simp only [addressesFrom, List.range_succ_eq_map, List.map_cons, List.map_map, Function.comp_def, Nat.succ_eq_add_one,
    add_ofNat_succ, add_ofNat_zero]

theorem mem_addressesFrom {a b : Addr} {n : Nat} :
    b ∈ addressesFrom a n ↔ ∃ k < n, a + BitVec.ofNat 16 k = b := by
  simp only [addressesFrom, List.mem_map, List.mem_range]

/-- Up to 2^16 consecutive addresses are distinct. -/
theorem addressesFrom_nodup (a : Addr) {n : Nat} (hn : n ≤ 65536) : (addressesFrom a n).Nodup := by
  refine List.nodup_range.map_on fun j hj k hk h => ?_
  rw [List.mem_range] at hj hk
  have he : (BitVec.ofNat 16 j).toNat = (BitVec.ofNat 16 k).toNat := congrArg BitVec.toNat ((BitVec.add_right_inj a).1 h)
  rw [BitVec.toNat_ofNat, BitVec.toNat_ofNat] at he
  omega

/-! ## Loads at consecutive addresses -/

theorem State.allReadable_cons {s : State} {a : Addr} {l : List Addr} :
    s.allReadable (a :: l) ↔ s.readable a = true ∧ s.allReadable l := List.forall_mem_cons

theorem loadAll_ok {n : Nat} {a : Addr} {s : State} (h : s.allReadable (addressesFrom a n)) :
    loadAll a n s = .ok ((addressesFrom a n).map s.peek) (s.counted (addressesFrom a n)) := by
  induction n generalizing a s with
  | zero => rfl
  | succ n ih =>
    rw [addressesFrom_succ, State.allReadable_cons] at h
    have hrest : loadAll (a + 1) n (s.counted [a]) = _ := ih h.2
    rw [loadAll, Run.bind_ok (memRead_ok h.1), Run.bind_ok hrest, addressesFrom_succ, State.counted_append]
    rfl

/-- The first address out of range ends the loads; those before it are counted. -/
theorem loadAll_error {n k : Nat} {a : Addr} {s : State} (hk : k < n) (h : s.allReadable (addressesFrom a k))
    (hf : s.readable (a + BitVec.ofNat 16 k) = false) :
    loadAll a n s = .error (.outOfRange (a + BitVec.ofNat 16 k) .load) (s.counted (addressesFrom a k)) := by
  induction n generalizing a s k with
  | zero => exact absurd hk (Nat.not_lt_zero k)
  | succ n ih =>
    rw [loadAll]
    cases k with
    | zero =>
      rw [add_ofNat_zero] at hf ⊢
      exact Run.bind_error (memRead_error hf)
    | succ k =>
      rw [addressesFrom_succ, State.allReadable_cons] at h
      rw [add_ofNat_succ] at hf
      have hrest : loadAll (a + 1) n (s.counted [a]) = _ := ih (Nat.lt_of_succ_lt_succ hk) h.2 hf
      rw [Run.bind_ok (memRead_ok h.1), Run.bind_error hrest, addressesFrom_succ, add_ofNat_succ, State.counted_append]
      rfl

/-! ## Stores at consecutive addresses -/

theorem memWrite_of_fault {s : State} {a : Addr} {v : Byte} {f : FaultRecord} (h : (s.stored a v).1 = some f) :
    memWrite a v s = .error f (s.stored a v).2 := by
  rw [memWrite_eq_stored, h]

theorem memWrite_of_no_fault {s : State} {a : Addr} {v : Byte} (h : (s.stored a v).1 = none) :
    memWrite a v s = .ok () (s.stored a v).2 := by
  rw [memWrite_eq_stored, h]

/-- The state after the first `n` stores of `bytes` from `a` on. -/
def State.afterStores (s : State) (a : Addr) (bytes : List Byte) (n : Nat) : State :=
  (List.range n).foldl (fun t k => (t.stored (a + BitVec.ofNat 16 k) (bytes.getD k 0)).2) s

/-- The fault of store `k` in the state the stores before it leave. -/
def State.storeFault (s : State) (a : Addr) (bytes : List Byte) (k : Nat) : Option FaultRecord :=
  ((s.afterStores a bytes k).stored (a + BitVec.ofNat 16 k) (bytes.getD k 0)).1

/-- The first store, and then the rest in the state it leaves. -/
theorem State.afterStores_cons (s : State) (a : Addr) (v : Byte) (rest : List Byte) (n : Nat) :
    s.afterStores a (v :: rest) (n + 1) = (s.stored a v).2.afterStores (a + 1) rest n := by
  simp only [State.afterStores, List.range_succ_eq_map, List.foldl_cons, List.foldl_map, Nat.succ_eq_add_one,
    add_ofNat_succ, add_ofNat_zero, List.getD_cons_zero, List.getD_cons_succ]

theorem State.storeFault_zero (s : State) (a : Addr) (v : Byte) (rest : List Byte) :
    s.storeFault a (v :: rest) 0 = (s.stored a v).1 := by
  rw [State.storeFault, add_ofNat_zero]
  rfl

theorem State.storeFault_succ (s : State) (a : Addr) (v : Byte) (rest : List Byte) (k : Nat) :
    s.storeFault a (v :: rest) (k + 1) = (s.stored a v).2.storeFault (a + 1) rest k := by
  rw [State.storeFault, State.afterStores_cons, add_ofNat_succ, List.getD_cons_succ]
  rfl

theorem storeAll_ok {bytes : List Byte} {a : Addr} {s : State}
    (h : ∀ k < bytes.length, s.storeFault a bytes k = none) :
    storeAll a bytes s = .ok () (s.afterStores a bytes bytes.length) := by
  induction bytes generalizing a s with
  | nil => rfl
  | cons v rest ih =>
    have hfirst : (s.stored a v).1 = none := s.storeFault_zero a v rest ▸ h 0 (Nat.succ_pos _)
    have hrest : ∀ k < rest.length, (s.stored a v).2.storeFault (a + 1) rest k = none := fun k hk =>
      s.storeFault_succ a v rest k ▸ h (k + 1) (Nat.succ_lt_succ hk)
    rw [storeAll, Run.bind_ok (memWrite_of_no_fault hfirst), ih hrest, List.length_cons, State.afterStores_cons]

/-- The first store that raises a fault ends the stores, in the state it leaves. -/
theorem storeAll_error {bytes : List Byte} {k : Nat} {a : Addr} {s : State} {f : FaultRecord} (hk : k < bytes.length)
    (h : ∀ j < k, s.storeFault a bytes j = none) (hf : s.storeFault a bytes k = some f) :
    storeAll a bytes s = .error f (s.afterStores a bytes (k + 1)) := by
  induction bytes generalizing a s k with
  | nil => exact absurd hk (Nat.not_lt_zero k)
  | cons v rest ih =>
    rw [storeAll, State.afterStores_cons]
    cases k with
    | zero =>
      rw [State.storeFault_zero] at hf
      exact Run.bind_error (memWrite_of_fault hf)
    | succ k =>
      have hfirst : (s.stored a v).1 = none := s.storeFault_zero a v rest ▸ h 0 (Nat.succ_pos k)
      rw [State.storeFault_succ] at hf
      rw [Run.bind_ok (memWrite_of_no_fault hfirst)]
      exact ih (Nat.lt_of_succ_lt_succ hk) (fun j hj => s.storeFault_succ a v rest j ▸ h (j + 1) (Nat.succ_lt_succ hj)) hf

/-! ## Stores that reach neither a sink nor a control byte -/

theorem State.stored_backend {s : State} {a : Addr} {ph : Phys} (v : Byte) (hs : s.sinkAt a = none)
    (hp : s.resolve a = some ph) : s.stored a v = (none, s.storeAt ph v) := by
  rw [State.stored, hs]
  dsimp only
  rw [hp]
  rfl

/-- A store to a byte that is no control byte leaves every address where it was. -/
theorem State.resolve_storeAt {s : State} {ph : Phys} (v : Byte) (h : isControlByte s.cfg.backend ph = false) :
    (s.storeAt ph v).resolve = s.resolve := funext fun b => resolve_write _ s.mem ph v b h

/-- Counting depends on resolution and the counters alone. -/
theorem State.counted_storeAt {s : State} {a : Addr} {ph : Phys} (v : Byte) (l : List Addr) (hp : s.resolve a = some ph)
    (h : isControlByte s.cfg.backend ph = false) :
    (s.storeAt ph v).counted l = { s.counted (a :: l) with mem := s.mem.write ph v } := by
  unfold State.counted
  rw [State.resolve_storeAt v h, List.foldl_cons, hp]
  rfl

/-- A list of bytes written at a list of physical bytes, in order. -/
def writeEach (m : Memory) (phs : List Phys) (bytes : List Byte) : Memory :=
  (phs.zip bytes).foldl (fun m e => m.write e.1 e.2) m

/-- Each store goes where its address resolved before the stores, and none raises a fault. -/
theorem afterStores_backend {bytes : List Byte} {a : Addr} {phs : List Phys} {s : State}
    (hp : (addressesFrom a bytes.length).map s.resolve = phs.map some)
    (hs : ∀ b ∈ addressesFrom a bytes.length, s.sinkAt b = none)
    (hc : ∀ ph ∈ phs, isControlByte s.cfg.backend ph = false) :
    (∀ k < bytes.length, s.storeFault a bytes k = none) ∧
      s.afterStores a bytes bytes.length =
        { s.counted (addressesFrom a bytes.length) with mem := writeEach s.mem phs bytes } := by
  induction bytes generalizing a phs s with
  | nil =>
    obtain rfl : phs = [] := List.map_eq_nil_iff.1 hp.symm
    exact ⟨fun k hk => absurd hk (Nat.not_lt_zero k), rfl⟩
  | cons v rest ih =>
    rw [List.length_cons, addressesFrom_succ] at hp hs ⊢
    obtain ⟨ph, phs, rfl, hp, hprest⟩ := List.map_eq_cons_iff.1 hp.symm
    rw [List.forall_mem_cons] at hs hc
    have hstored := s.stored_backend v hs.1 hp.symm
    rw [← State.resolve_storeAt v hc.1] at hprest
    obtain ⟨hfault, hafter⟩ := ih (s := s.storeAt ph v) hprest.symm hs.2 hc.2
    constructor
    · intro k hk
      cases k with
      | zero => rw [State.storeFault_zero, hstored]
      | succ k => rw [State.storeFault_succ, hstored]; exact hfault k (Nat.lt_of_succ_lt_succ hk)
    · rw [State.afterStores_cons, hstored, hafter, State.counted_storeAt v _ hp.symm hc.1]
      rfl

/-! ## The copies (R116 to R118) -/

/-- The commands of the sink callbacks are refused after `close` alone (R316, R326). -/
theorem admission_served {c : HostCommand} {s : State} (hc : servedDuringRun c = true) (hs : s.status ≠ .closed) :
    admission c s = none := by
  unfold admission
  cases h : s.status with
  | closed => exact absurd h hs
  | running => simp [hc]
  | idle | halted | faulted => rfl

theorem hostCommand_served {c : HostCommand} {s : State} (hc : servedDuringRun c = true) (hs : s.status ≠ .closed) :
    hostCommand c s = serve c s := hostCommand_admitted (admission_served hc hs)

theorem validRange_eq_true {a : Addr} {n : Nat} (h : 1 ≤ n) (h' : a.toNat + n - 1 ≤ 0xFFFF) :
    validRange a n = true := by
  simp [validRange, h, h']

theorem validRange_eq_false {a : Addr} {n : Nat} (h : n < 1 ∨ 0xFFFF < a.toNat + n - 1) : validRange a n = false := by
  rw [validRange, Bool.and_eq_false_iff, decide_eq_false_iff_not, decide_eq_false_iff_not]
  omega

/-- Settles O49: both copies are `loadAll` and `storeAll` once the range has passed its check. -/
theorem copiesCheckTheirRangeAndReadInOrder : Obligations.copies_check_their_range_and_read_in_order := by
  unfold Obligations.copies_check_their_range_and_read_in_order
  intro s address length bytes hs places stores fault
  have hfrom : hostCommand (.copyFromMem address length) s = serve _ s := hostCommand_served rfl hs
  have hto : hostCommand (.copyToMem bytes address) s = serve _ s := hostCommand_served rfl hs
  rw [hfrom, hto]
  simp only [serve, hostCopyFromMem, hostCopyToMem]
  refine ⟨fun h => ?_, fun h => ?_, fun h h' hr => ?_, fun k hk h hr hf => ?_,
    fun h h' => ⟨fun hf => ?_, fun k f hk hj hf => ?_⟩, fun phs => afterStores_backend⟩
  · rw [validRange_eq_false h]; rfl
  · rw [validRange_eq_false h]; rfl
  · rw [validRange_eq_true h h', loadAll_ok hr]; rfl
  · rw [validRange_eq_true (Nat.one_le_of_lt hk) h, loadAll_error hk hr hf]; rfl
  · rw [validRange_eq_true h h', storeAll_ok hf]; rfl
  · rw [validRange_eq_true h h', storeAll_error hk hj hf]; rfl

/-! ## `loadProgram` (R115) -/

theorem writeEach_cons (m : Memory) (ph : Phys) (v : Byte) (phs : List Phys) (bytes : List Byte) :
    writeEach m (ph :: phs) (v :: bytes) = writeEach (m.write ph v) phs bytes := rfl

theorem read_writeEach_of_not_mem {phs : List Phys} {ph : Phys} (h : ph ∉ phs) (bytes : List Byte) (m : Memory) :
    (writeEach m phs bytes).read ph = m.read ph := by
  induction phs generalizing bytes m with
  | nil => rfl
  | cons q phs ih =>
    cases bytes with
    | nil => rfl
    | cons v bytes =>
      rw [List.mem_cons, not_or] at h
      rw [writeEach_cons, ih h.2, Arrays.read_write_other m v h.1]

/-- On distinct places each byte stays where it was written. -/
theorem read_writeEach_getElem {phs : List Phys} (hd : phs.Nodup) {bytes : List Byte} (m : Memory) {k : Nat} {ph : Phys}
    (hk : k < bytes.length) (hp : phs[k]? = some ph) : some ((writeEach m phs bytes).read ph) = bytes[k]? := by
  induction phs generalizing bytes m k with
  | nil => cases hp
  | cons q phs ih =>
    obtain ⟨hq, hd⟩ := List.nodup_cons.1 hd
    cases bytes with
    | nil => exact absurd hk (Nat.not_lt_zero k)
    | cons v bytes =>
      rw [writeEach_cons]
      cases k with
      | zero =>
        obtain rfl : q = ph := Option.some.inj hp
        rw [read_writeEach_of_not_mem hq, Arrays.read_write_same]
        rfl
      | succ k => exact ih hd _ (Nat.lt_of_succ_lt_succ hk) hp

theorem State.peek_of_resolve {s : State} {a : Addr} {ph : Phys} (h : s.resolve a = some ph) :
    s.peek a = s.mem.read ph := by
  rw [State.peek, h]

theorem State.peek_of_unresolved {s : State} {a : Addr} (h : s.resolve a = none) : s.peek a = 0 := by
  rw [State.peek, h]

/-- The byte of linear memory an address stands for (R71). -/
def linPhys (a : Addr) : Phys := ⟨.lin, a.toNat⟩

theorem linPhys_injective : Function.Injective linPhys := fun _ _ h => BitVec.eq_of_toNat_eq (Phys.mk.inj h).2

/-- On linear memory an address that resolves stands for itself. -/
theorem State.resolve_linear {s : State} {size : Nat} (hb : s.cfg.backend = .linear size) {a : Addr} {ph : Phys}
    (h : s.resolve a = some ph) : ph = linPhys a := by
  rw [State.resolve, hb, resolveLinear_eq, Option.ite_none_right_eq_some] at h
  exact (Option.some.inj h.2).symm

theorem State.resolve_linear_of_readable {s : State} {size : Nat} (hb : s.cfg.backend = .linear size) {a : Addr}
    (h : s.readable a = true) : s.resolve a = some (linPhys a) := by
  obtain ⟨ph, hp⟩ := (s.readable_iff a).1 h
  rw [hp, State.resolve_linear hb hp]

/-- `s` with `bytes` stored in linear memory from `a` on, each store counted. -/
def State.placed (s : State) (a : Addr) (bytes : List Byte) : State :=
  { s.counted (addressesFrom a bytes.length) with
    mem := writeEach s.mem ((addressesFrom a bytes.length).map linPhys) bytes }

theorem storeAll_linear {s : State} {size : Nat} {a : Addr} {bytes : List Byte} (hb : s.cfg.backend = .linear size)
    (hs : s.cfg.sinks = []) (hr : s.allReadable (addressesFrom a bytes.length)) :
    storeAll a bytes s = .ok () (s.placed a bytes) := by
  have hplaces : (addressesFrom a bytes.length).map s.resolve = ((addressesFrom a bytes.length).map linPhys).map some := by
    rw [List.map_map]
    exact List.map_congr_left fun b hb' => State.resolve_linear_of_readable hb (hr b hb')
  have hsink : ∀ b ∈ addressesFrom a bytes.length, s.sinkAt b = none := fun b _ => by rw [State.sinkAt, hs]; rfl
  obtain ⟨hfault, hafter⟩ := afterStores_backend hplaces hsink fun ph _ => by rw [hb]; rfl
  rw [storeAll_ok hfault, hafter]
  rfl

theorem State.resolve_placed {s : State} {size : Nat} (hb : s.cfg.backend = .linear size) (a : Addr) (bytes : List Byte)
    (b : Addr) : (s.placed a bytes).resolve b = s.resolve b := by
  show Machine.resolve s.cfg.backend _ b = Machine.resolve s.cfg.backend _ b
  rw [hb]
  rfl

/-- Up to 2^16 bytes stand at distinct addresses. -/
theorem State.peek_placed {s : State} {size : Nat} {a : Addr} {bytes : List Byte} (hb : s.cfg.backend = .linear size)
    (hmax : bytes.length ≤ 65536) {k : Nat} (hk : k < bytes.length) (hr : s.readable (a + BitVec.ofNat 16 k) = true) :
    some ((s.placed a bytes).peek (a + BitVec.ofNat 16 k)) = bytes[k]? := by
  have hp := (State.resolve_placed hb a bytes _).trans (State.resolve_linear_of_readable hb hr)
  rw [State.peek_of_resolve hp]
  refine read_writeEach_getElem ((addressesFrom_nodup a hmax).map linPhys_injective) _ hk ?_
  rw [addressesFrom, List.map_map, List.getElem?_map, List.getElem?_range hk]
  rfl

theorem State.peek_placed_elsewhere {s : State} {size : Nat} {a b : Addr} {bytes : List Byte}
    (hb : s.cfg.backend = .linear size) (hne : b ∉ addressesFrom a bytes.length) :
    (s.placed a bytes).peek b = s.peek b := by
  have he := State.resolve_placed hb a bytes b
  cases hp : s.resolve b with
  | none => rw [State.peek_of_unresolved (he.trans hp), State.peek_of_unresolved hp]
  | some ph =>
    rw [State.peek_of_resolve (he.trans hp), State.peek_of_resolve hp, State.resolve_linear hb hp]
    refine read_writeEach_of_not_mem (fun hmem => hne ?_) bytes s.mem
    rwa [List.mem_map_of_injective linPhys_injective] at hmem

theorem hostLoadProgram_short {bytes : List Byte} (h : bytes.length < 3) (s : State) :
    hostLoadProgram bytes s = (.error (.programTooShort bytes.length), s) := by
  match bytes with
  | [] | [_] | [_, _] => rfl
  | _ :: _ :: _ :: _ => exact absurd h (by simp)

theorem hostLoadProgram_ok {lo hi : Byte} {bytes : List Byte} {s t : State} (hb : 1 ≤ bytes.length)
    (h : storeAll (w16 hi lo) bytes s = .ok () t) :
    hostLoadProgram (lo :: hi :: bytes) s = (.loaded (w16 hi lo) bytes.length, t) := by
  cases bytes with
  | nil => cases hb
  | cons first rest => rw [hostLoadProgram, h]; rfl

/-- Settles O48: on linear memory an address is its own place, and up to 2^16 of them are distinct. -/
theorem loadProgramPlacesThePayload : Obligations.load_program_places_the_payload := by
  unfold Obligations.load_program_places_the_payload
  intro s lo hi bytes size hs
  refine ⟨fun short h => ?_, fun hb hsinks h1 hmax hr => ?_⟩
  · rw [hostCommand_admitted (admission_outside_run _ hs), serve, hostLoadProgram_short h]
  · have hreadable : s.allReadable (addressesFrom (w16 hi lo) bytes.length) := fun a ha => by
      obtain ⟨k, hk, rfl⟩ := mem_addressesFrom.1 ha
      exact hr k hk
    have hstores := storeAll_linear hb hsinks hreadable
    refine ⟨s.placed (w16 hi lo) bytes, ?_, fun k hk => State.peek_placed hb hmax hk (hr k hk), fun a ha => ?_,
      rfl, rfl, rfl⟩
    · rw [hostCommand_admitted (admission_outside_run _ hs), serve, hostLoadProgram_ok h1 hstores]
    · refine State.peek_placed_elsewhere hb fun hmem => ?_
      obtain ⟨k, hk, hak⟩ := mem_addressesFrom.1 hmem
      exact ha k hk hak.symm

end Sys2Proof.Machine
end

section
/-! PROOFS. The statistics commands (20_memory.md R119; 60_exceptions.md R340 to R348): the walk of the report, and what the
cutoffs answer on a range with an invalid argument or an address out of range. -/

namespace Sys2Proof.Machine

/-! ## Counters and bytes after one load -/

theorem State.statistics_of_resolve {s : State} {a : Addr} {ph : Phys} (h : s.resolve a = some ph) :
    s.statistics a = some (s.counts.read ph) := by
  rw [State.statistics, h]
  rfl

theorem State.statistics_of_unresolved {s : State} {a : Addr} (h : s.resolve a = none) : s.statistics a = none := by
  rw [State.statistics, h]
  rfl

theorem State.counted_singleton {s : State} {a : Addr} {ph : Phys} (h : s.resolve a = some ph) :
    s.counted [a] = s.count ph := by
  rw [State.counted, List.foldl_cons, h]
  rfl

/-- The counter a load has raised. -/
theorem State.statistics_counted_same {s : State} {a : Addr} {ph : Phys} (h : s.resolve a = some ph) :
    (s.counted [a]).statistics a = some (s.counts.read ph + 1) := by
  rw [State.counted_singleton h, State.statistics_of_resolve (s := s.count ph) h, State.count_counts,
    Arrays.read_write_same]

/-- A load of another physical byte raises no counter of `b`. -/
theorem State.statistics_counted_other {s : State} {a b : Addr} (h : s.resolve b ≠ s.resolve a) :
    (s.counted [a]).statistics b = s.statistics b := by
  cases hb : s.resolve b with
  | none => rw [State.statistics_of_unresolved hb, State.statistics_of_unresolved (s := s.counted [a]) hb]
  | some q =>
    rw [State.statistics_of_resolve hb, State.statistics_of_resolve (s := s.counted [a]) hb]
    cases ha : s.resolve a with
    | none => rw [State.counted, List.foldl_cons, ha]; rfl
    | some ph =>
      rw [hb, ha] at h
      rw [State.counted_singleton ha, State.count_counts, Arrays.read_write_other _ _ fun e => h (congrArg some e)]

/-! ## The walk -/

/-- The counter before the report's own load: the raw counter less 1, floored at 0 (R345); 0 too where it has wrapped. -/
def reportedCount (raw : Count) : Nat := if raw.toNat + 1 = 2 ^ 64 then 0 else raw.toNat

theorem adjustedCount_add_one (raw : Count) : adjustedCount (raw + 1) = BitVec.ofNat 64 (reportedCount raw) := by
  unfold adjustedCount reportedCount
  by_cases h : raw.toNat + 1 = 2 ^ 64
  · rw [if_pos h, if_pos (by bv_omega)]
    rfl
  · rw [if_neg h, if_neg (by bv_omega), BitVec.add_sub_cancel, BitVec.ofNat_toNat, BitVec.setWidth_eq]

theorem toNat_adjustedCount_add_one (raw : Count) : (adjustedCount (raw + 1)).toNat = reportedCount raw := by
  have hlt : reportedCount raw < 2 ^ 64 := by
    unfold reportedCount
    split
    · decide
    · exact raw.isLt
  rw [adjustedCount_add_one, BitVec.toNat_ofNat, Nat.mod_eq_of_lt hlt]

/-- The lines of one address: its labels, and then its entry (R345 to R347). -/
def addressLines (c : Count) (labels : List (Addr × List String)) (s : State) (a : Addr) : List ReportLine :=
  (labelsAt labels a).map .label ++
    [.entry (decide (c.toNat ≤ reportedCount ((s.statistics a).getD 0))) a (s.peek a)
      (BitVec.ofNat 64 (reportedCount ((s.statistics a).getD 0)))]

/-- One address of the walk: the load, the lines, and then the rest of the walk in the state the load leaves. -/
theorem reportWalk_cons (c : Count) (labels : List (Addr × List String)) {a : Addr} (rest : List Addr) {s : State}
    (h : s.readable a = true) :
    reportWalk c labels (a :: rest) s =
      (addressLines c labels s a ++ (reportWalk c labels rest (s.counted [a])).1,
        (reportWalk c labels rest (s.counted [a])).2) := by
  obtain ⟨ph, hp⟩ := (s.readable_iff a).1 h
  rw [reportWalk, memRead_ok h]
  dsimp only
  rw [State.statistics_counted_same hp, Option.getD_some, toNat_adjustedCount_add_one, adjustedCount_add_one,
    addressLines, State.statistics_of_resolve hp, Option.getD_some, List.append_assoc]
  rfl

/-- Where every address resolves, the walk ends without error and its only effect is its loads. -/
theorem reportWalk_counts (c : Count) (labels : List (Addr × List String)) {addrs : List Addr} {s : State}
    (h : s.allReadable addrs) : (reportWalk c labels addrs s).2 = (none, s.counted addrs) := by
  induction addrs generalizing s with
  | nil => rfl
  | cons a rest ih =>
    obtain ⟨ha, hrest⟩ := State.allReadable_cons.1 h
    rw [reportWalk_cons c labels rest ha, ih (s := s.counted [a]) hrest, State.counted_append]
    rfl

/-- On distinct physical bytes no load of the walk raises the counter of a later address. -/
theorem reportWalk_lines (c : Count) (labels : List (Addr × List String)) {addrs : List Addr} {s : State}
    (h : s.allReadable addrs) (hd : (addrs.map s.resolve).Nodup) :
    (reportWalk c labels addrs s).1 = addrs.flatMap (addressLines c labels s) := by
  induction addrs generalizing s with
  | nil => rfl
  | cons a rest ih =>
    obtain ⟨ha, hrest⟩ := State.allReadable_cons.1 h
    rw [List.map_cons, List.nodup_cons] at hd
    rw [reportWalk_cons c labels rest ha, ih (s := s.counted [a]) hrest hd.2, List.flatMap_cons]
    refine congrArg _ (List.flatMap_congr fun b hb => ?_)
    have hne : s.resolve b ≠ s.resolve a := fun e => hd.1 (e ▸ List.mem_map_of_mem hb)
    rw [addressLines, State.statistics_counted_other hne]
    rfl

theorem reportWalk_eq (c : Count) (labels : List (Addr × List String)) {addrs : List Addr} {s : State}
    (h : s.allReadable addrs) (hd : (addrs.map s.resolve).Nodup) :
    reportWalk c labels addrs s = (addrs.flatMap (addressLines c labels s), none, s.counted addrs) :=
  Prod.ext (reportWalk_lines c labels h hd) (reportWalk_counts c labels h)

/-! ## Cutoffs -/

theorem allReadable_of_statisticsOf_ok {s : State} {l : List Addr} {ns : List Count} (h : s.statisticsOf l = .ok ns) :
    s.allReadable l := by
  induction l generalizing ns with
  | nil => exact fun _ ha => nomatch ha
  | cons a rest ih =>
    rw [State.statisticsOf] at h
    cases hp : s.resolve a with
    | none => rw [State.statistics_of_unresolved hp] at h; cases h
    | some ph =>
      rw [State.statistics_of_resolve hp] at h
      refine State.allReadable_cons.2 ⟨(s.readable_iff a).2 ⟨ph, hp⟩, ?_⟩
      cases hr : s.statisticsOf rest with
      | error e => rw [hr] at h; cases h
      | ok ns => exact ih hr

/-- An error of the counters of a range is an address of it that is out of range (R341). -/
theorem outOfRange_of_statisticsOf_error {s : State} {l : List Addr} {e : HostError} (h : s.statisticsOf l = .error e) :
    ∃ a ∈ l, e = .met (.outOfRange a .load) := by
  induction l with
  | nil => cases h
  | cons a rest ih =>
    rw [State.statisticsOf] at h
    cases hp : s.resolve a with
    | none =>
      rw [State.statistics_of_unresolved hp] at h
      cases h
      exact ⟨a, List.mem_cons_self, rfl⟩
    | some ph =>
      rw [State.statistics_of_resolve hp] at h
      cases hr : s.statisticsOf rest with
      | error e' =>
        rw [hr] at h
        cases h
        obtain ⟨b, hb, he⟩ := ih hr
        exact ⟨b, List.mem_cons_of_mem a hb, he⟩
      | ok ns => rw [hr] at h; cases h

theorem cutoff_of_invalid {first last : Addr} {p : Fraction} (h : validFraction p = false ∨ last.toNat < first.toNat)
    (s : State) (alg : CutoffAlgorithm) : ∃ arg, s.cutoff alg first last p = .error (.paramError arg) := by
  unfold State.cutoff checkCutoffArgs
  cases hv : validFraction p with
  | false => exact ⟨_, rfl⟩
  | true =>
    have hlt : ¬first.toNat ≤ last.toNat := Nat.not_le.2 (h.resolve_left (by simp [hv]))
    rw [if_pos rfl, if_neg hlt]
    exact ⟨_, rfl⟩

/-- With valid arguments a cutoff fails exactly as the counters of its range do. -/
theorem cutoff_of_valid {first last : Addr} {p : Fraction} (hv : validFraction p = true) (hle : first.toNat ≤ last.toNat)
    (s : State) (alg : CutoffAlgorithm) :
    (∀ e, s.statisticsOf (addrRange first last) = .error e → s.cutoff alg first last p = .error e) ∧
    (∀ c, s.cutoff alg first last p = .ok c → ∃ ns, s.statisticsOf (addrRange first last) = .ok ns) := by
  unfold State.cutoff checkCutoffArgs
  rw [if_pos hv, if_pos hle]
  cases s.statisticsOf (addrRange first last) with
  | error e => exact ⟨fun _ h => by cases h; rfl, nofun⟩
  | ok ns => exact ⟨nofun, fun _ _ => ⟨ns, rfl⟩⟩

/-- A cutoff is answered only where the whole range resolves (R341). -/
theorem allReadable_of_cutoff_ok {s : State} {alg : CutoffAlgorithm} {first last : Addr} {p : Fraction} {c : Count}
    (h : s.cutoff alg first last p = .ok c) : s.allReadable (addrRange first last) := by
  by_cases hbad : validFraction p = false ∨ last.toNat < first.toNat
  · obtain ⟨arg, he⟩ := cutoff_of_invalid hbad s alg
    cases h.symm.trans he
  · rw [not_or, Bool.not_eq_false, Nat.not_lt] at hbad
    obtain ⟨ns, hns⟩ := (cutoff_of_valid hbad.1 hbad.2 s alg).2 c h
    exact allReadable_of_statisticsOf_ok hns

theorem cutoff_of_unreadable {s : State} {first last : Addr} {p : Fraction} (hv : validFraction p = true)
    (hle : first.toNat ≤ last.toNat) (h : ¬s.allReadable (addrRange first last)) (alg : CutoffAlgorithm) :
    ∃ a ∈ addrRange first last, s.cutoff alg first last p = .error (.met (.outOfRange a .load)) := by
  cases hns : s.statisticsOf (addrRange first last) with
  | ok ns => exact absurd (allReadable_of_statisticsOf_ok hns) h
  | error e =>
    obtain ⟨a, ha, rfl⟩ := outOfRange_of_statisticsOf_error hns
    exact ⟨a, ha, (cutoff_of_valid hv hle s alg).1 _ hns⟩

/-! ## The commands -/

/-- The command that answers a cutoff (R342, R343). -/
def cutoffCommand (alg : CutoffAlgorithm) (first last : Addr) (p : Fraction) : HostCommand :=
  if alg = .absolute then .cutoffAbsolute first last p else .cutoffMedian first last p

theorem hostCommand_cutoff (alg : CutoffAlgorithm) (first last : Addr) (p : Fraction) {s : State}
    (hs : s.status ∈ [Status.idle, .halted, .faulted]) :
    hostCommand (cutoffCommand alg first last p) s =
      (some (hostCutoff alg first last p s).1, (hostCutoff alg first last p s).2) := by
  rw [hostCommand_admitted (admission_outside_run _ hs)]
  cases alg <;> rfl

theorem hostReport_ok {alg : CutoffAlgorithm} {first last : Addr} {p : Fraction} {s : State} {c : Count}
    (h : s.cutoff alg first last p = .ok c) (labels : List (Addr × List String)) :
    hostReport first last p alg labels s =
      (.report (reportWalk c labels (addrRange first last) s).1 none, s.counted (addrRange first last)) := by
  have hw := reportWalk_counts c labels (allReadable_of_cutoff_ok h)
  rw [hostReport, h]
  dsimp only
  rw [congrArg Prod.fst hw, congrArg Prod.snd hw]

theorem hostReport_error {alg : CutoffAlgorithm} {first last : Addr} {p : Fraction} {s : State} {e : HostError}
    (h : s.cutoff alg first last p = .error e) (labels : List (Addr × List String)) :
    hostReport first last p alg labels s = (.error e, s) := by
  rw [hostReport, h]

theorem hostCutoff_ok {alg : CutoffAlgorithm} {first last : Addr} {p : Fraction} {s : State} {c : Count}
    (h : s.cutoff alg first last p = .ok c) : hostCutoff alg first last p s = (.cutoff c, s) := by
  rw [hostCutoff, h]

theorem hostCutoff_error {alg : CutoffAlgorithm} {first last : Addr} {p : Fraction} {s : State} {e : HostError}
    (h : s.cutoff alg first last p = .error e) : hostCutoff alg first last p s = (.error e, s) := by
  rw [hostCutoff, h]

theorem hostGetStatistics_of_resolve {s : State} {a : Addr} {ph : Phys} (h : s.resolve a = some ph) :
    hostGetStatistics a s = (.statistics (s.counts.read ph), s) := by
  rw [hostGetStatistics, State.statistics_of_resolve h]

theorem hostGetStatistics_of_unresolved {s : State} {a : Addr} (h : s.resolve a = none) :
    hostGetStatistics a s = (.error (.met (.outOfRange a .load)), s) := by
  rw [hostGetStatistics, State.statistics_of_unresolved h]

/-- Settles O54: the walk, `getStatistics`, and the cutoff and report commands by what the cutoff comes to. -/
theorem reportCountsOnceAndReportsBefore : Obligations.report_counts_once_and_reports_before := by
  unfold Obligations.report_counts_once_and_reports_before
  refine ⟨fun c labels addrs s => reportWalk_eq c labels, fun s a hs => ?_, fun s first last p alg labels hs => ?_⟩
  · rw [hostCommand_served rfl hs, serve]
    refine ⟨fun ph hp => ?_, fun hp => ⟨.load, ?_⟩⟩
    · rw [hostGetStatistics_of_resolve hp]
    · rw [hostGetStatistics_of_unresolved hp]
  · intro range command report
    have hcommand : hostCommand command s = _ := hostCommand_cutoff alg first last p hs
    have hreport : hostCommand report s = _ := hostCommand_admitted (admission_outside_run report hs)
    rw [hcommand, hreport, serve]
    refine ⟨fun c hc => ?_, fun e he => ?_, fun h => cutoff_of_invalid h s alg, fun hv hle hr => ?_⟩
    · rw [hostCutoff_ok hc, hostReport_ok hc labels]
      refine ⟨rfl, ⟨(reportWalk c labels range s).1, rfl⟩, fun hd => ?_⟩
      rw [reportWalk_lines c labels (allReadable_of_cutoff_ok hc) hd]
      rfl
    · rw [hostCutoff_error he, hostReport_error he labels]
      exact ⟨rfl, rfl⟩
    · obtain ⟨a, ha, he⟩ := cutoff_of_unreadable hv hle hr alg
      exact ⟨a, ha, .load, he⟩

end Sys2Proof.Machine
end

section
/-! PROOFS. Stores that reach a sink (20_memory.md R102 to R104; 60_exceptions.md R314): what a store changes at all, the one
store of a Write, an RMW and a push instruction, and the two of JSR (R273). -/

namespace Sys2Proof.Machine

/-! ## What a sink does -/

/-- The bytes a sink hands on to other sinks, as calls on the sink port. -/
def handedOn (l : List SinkAccess) : List SinkCall :=
  l.filterMap fun
    | .handOn sink a v => some (.write sink a v)
    | .load _ | .store _ _ => none

/-- The accesses of a sink change memory and counters, by the memory, the counters and the backend alone, and add the calls they
hand on. -/
theorem sinkAccesses_eq (l : List SinkAccess) {s t : State} (hcfg : t.cfg = s.cfg) (hmem : t.mem = s.mem)
    (hcounts : t.counts = s.counts) :
    l.foldl State.sinkAccess t =
      { t with
        mem       := (l.foldl State.sinkAccess s).mem
        counts    := (l.foldl State.sinkAccess s).counts
        sinkCalls := t.sinkCalls ++ handedOn l } := by
  induction l generalizing s t with
  | nil =>
    show t = { t with mem := s.mem, counts := s.counts, sinkCalls := t.sinkCalls ++ [] }
    rw [← hmem, ← hcounts, List.append_nil]
  | cons acc l ih =>
    have hresolve (a : Addr) : t.resolve a = s.resolve a := by unfold State.resolve; rw [hcfg, hmem]
    rw [List.foldl_cons, List.foldl_cons]
    cases acc with
    | load a =>
      dsimp only [State.sinkAccess]
      rw [hresolve]
      cases s.resolve a with
      | none => exact ih hcfg hmem hcounts
      | some ph => exact ih hcfg hmem (by rw [State.count_counts, State.count_counts, hcounts])
    | store a v =>
      dsimp only [State.sinkAccess]
      rw [hresolve]
      cases s.resolve a with
      | none => exact ih hcfg hmem hcounts
      | some ph =>
        exact ih hcfg (by rw [State.storeAt_mem, State.storeAt_mem, hmem])
          (by rw [State.storeAt_counts, State.storeAt_counts, hcounts])
    | handOn sink a v =>
      refine (ih (s := s.sinkAccess (.handOn sink a v)) (t := t.sinkAccess (.handOn sink a v)) hcfg hmem hcounts).trans ?_
      rw [show handedOn (.handOn sink a v :: l) = .write sink a v :: handedOn l from rfl, List.append_cons]
      rfl

/-- The sink called at this point of `s` does its accesses in `s`. -/
def State.sinkDid (s : State) : State := (Config.sinkEffect s.draws).accesses.foldl State.sinkAccess s

/-- A store to a sink (R102, R103): the call, the memory and counters the sink leaves, and the calls it hands on. -/
theorem State.stored_sink_state {s : State} {a : Addr} {sink : Nat} (v : Byte) (h : s.sinkAt a = some sink) :
    (s.stored a v).2 =
      { s with
        mem       := s.sinkDid.mem
        counts    := s.sinkDid.counts
        draws     := s.draws + 1
        sinkCalls := s.sinkCalls ++ [.write sink a v] ++ handedOn (Config.sinkEffect s.draws).accesses } := by
  rw [State.stored, h]
  exact sinkAccesses_eq _ (s := s) rfl rfl rfl

/-- The one fault of a store to a sink is the sink's failure (R104). -/
theorem State.stored_sink_fault {s : State} {a : Addr} {sink : Nat} {v : Byte} {f : FaultRecord}
    (h : s.sinkAt a = some sink) (hf : (s.stored a v).1 = some f) : f = .sinkFailure a v := by
  rw [State.stored, h, Option.ite_none_right_eq_some] at hf
  exact (Option.some.inj hf.2).symm

/-- A store writes no register: memory, counters, draws and sink calls alone. -/
theorem State.stored_state (s : State) (a : Addr) (v : Byte) :
    ∃ mem counts draws calls,
      (s.stored a v).2 = { s with mem := mem, counts := counts, draws := draws, sinkCalls := calls } := by
  cases hs : s.sinkAt a with
  | some sink => exact ⟨_, _, _, _, s.stored_sink_state v hs⟩
  | none =>
    rw [State.stored, hs]
    cases s.resolve a with
    | some ph => exact ⟨s.mem.write ph v, _, s.draws, s.sinkCalls, rfl⟩
    | none => exact ⟨s.mem, s.counts, s.draws, s.sinkCalls, rfl⟩

@[simp] theorem State.stored_cfg (s : State) (a : Addr) (v : Byte) : (s.stored a v).2.cfg = s.cfg := by
  obtain ⟨_, _, _, _, h⟩ := s.stored_state a v
  rw [h]

@[simp] theorem State.stored_cycles (s : State) (a : Addr) (v : Byte) : (s.stored a v).2.cycles = s.cycles := by
  obtain ⟨_, _, _, _, h⟩ := s.stored_state a v
  rw [h]

/-- SP and P of the state before a store are those after it. -/
theorem State.stored_setSp_setP (s : State) (a : Addr) (v : Byte) :
    ((s.stored a v).2.setSp s.sp).setP s.p = (s.stored a v).2 := by
  obtain ⟨_, _, _, _, h⟩ := s.stored_state a v
  rw [h]
  rfl

/-! ## An instruction with one store, at a sink -/

/-- An instruction whose body is loads, PC past the operand, one store, and then SP and P. -/
theorem runInstr_afterSinkStore {s : State} {i : Instr} {loads : List Addr} {timing : Timing} {sink : Nat} {a : Addr}
    {v sp p : Byte} {body : Run Timing} (hs : s.sinkAt a = some sink) {u : State}
    (hu : u = (s.counted loads).setPc (s.nextPc i))
    (hfault : ∀ f, (u.stored a v).1 = some f → body s = .error f (u.stored a v).2)
    (hdone : (u.stored a v).1 = none → body s = .ok timing (((u.stored a v).2.setSp sp).setP p)) :
    ∃ t, runInstr i.opcode body s = .next t ∧ s.afterSinkStore i loads timing sink a v sp p t := by
  subst hu
  have hstate := State.stored_sink_state (s := (s.counted loads).setPc (s.nextPc i)) v hs
  have hdid : ((s.counted loads).setPc (s.nextPc i)).sinkDid = (s.counted loads).sinkDid.setPc (s.nextPc i) :=
    State.sinkAccesses_setPc _ _ _
  rw [hdid, State.setPc_mem, State.setPc_counts] at hstate
  cases hf : (((s.counted loads).setPc (s.nextPc i)).stored a v).1 with
  | some f =>
    refine ⟨_, runInstr_error (hfault f hf), ?_⟩
    rw [State.stored_sink_fault (s := (s.counted loads).setPc _) hs hf, hstate]
    exact ⟨rfl, rfl, List.prefix_append _ _, .inl ⟨rfl, rfl⟩⟩
  | none =>
    refine ⟨_, runInstr_ok (hdone hf), ?_⟩
    rw [hstate]
    simp [State.afterSinkStore, State.sinkDid]

/-- PC past an instruction with a memory operand. -/
theorem State.nextPc_mem {i : Instr} {m : MemMode} (s : State) (h : i.operand = .mem m) :
    s.nextPc i = s.pc + BitVec.ofNat 16 (modeBytes m) := by
  rw [State.nextPc, h]
  cases m <;> rfl

theorem writeMem_sink {s : State} {i : Instr} {m : MemMode} {f : State → Byte} {v : Byte} {sink : Nat}
    (hm : i.operand = .mem m) (hr : s.allReadable (s.modeReads m)) (hs : s.sinkAt (s.ea m).addr = some sink)
    (hv : f ((s.counted (s.modeReads m)).setPc (s.nextPc i)) = v) :
    ∃ t, writeMem i.opcode m f s = .next t ∧
      s.afterSinkStore i (s.modeReads m) { cross := (s.ea m).cross } sink (s.ea m).addr v s.sp s.p t := by
  have hea := resolveEa_ok m hr
  rw [← s.nextPc_mem hm] at hea
  refine runInstr_afterSinkStore hs rfl (fun g hg => ?_) fun hn => ?_
  · rw [Run.bind_ok hea, Run.get_bind, hv, Run.bind_error (memWrite_of_fault hg)]
  · rw [Run.bind_ok hea, Run.get_bind, hv, Run.bind_ok (memWrite_of_no_fault hn)]
    exact congrArg _ (State.stored_setSp_setP _ _ v).symm

theorem rmwMem_sink {s : State} {i : Instr} {m : MemMode} {f : State → Byte → Byte × Byte} {r : Byte × Byte}
    {sink : Nat} (hm : i.operand = .mem m) (hr : s.allReadable (s.modeReads m ++ [(s.ea m).addr]))
    (hs : s.sinkAt (s.ea m).addr = some sink)
    (hv : f ((s.counted (s.dataReads (.mem m))).setPc (s.nextPc i)) (s.peek (s.ea m).addr) = r) :
    ∃ t, rmwMem i.opcode m f s = .next t ∧
      s.afterSinkStore i (s.modeReads m ++ [(s.ea m).addr]) { cross := (s.ea m).cross } sink (s.ea m).addr r.1 s.sp r.2
        t := by
  rw [s.nextPc_mem hm] at hv
  refine runInstr_afterSinkStore hs rfl (fun g hg => ?_) fun hn => ?_
  · rw [s.nextPc_mem hm] at hg ⊢
    rw [resolveEa_read_ok m _ hr, Run.get_bind, hv]
    exact Run.bind_error (memWrite_of_fault hg)
  · rw [s.nextPc_mem hm] at hn ⊢
    rw [resolveEa_read_ok m _ hr, Run.get_bind, hv]
    refine (Run.bind_ok (memWrite_of_no_fault hn)).trans ?_
    exact congrArg (fun t => EStateM.Result.ok _ (t.setP r.2)) (State.stored_setSp_setP _ _ r.1).symm

/-! ## The stack -/

theorem push_of_fault {s : State} {v : Byte} {f : FaultRecord} (h : (s.stored (stackAddr s.sp) v).1 = some f) :
    push v s = .error f (s.stored (stackAddr s.sp) v).2 := by
  rw [push_eq_stored, h]

theorem push_of_no_fault {s : State} {v : Byte} (h : (s.stored (stackAddr s.sp) v).1 = none) :
    push v s = .ok () ((s.stored (stackAddr s.sp) v).2.setSp (s.sp - 1)) := by
  obtain ⟨_, _, _, _, hstate⟩ := s.stored_state (stackAddr s.sp) v
  rw [push_eq_stored, h, hstate]

theorem pushByte_sink {s : State} {i : Instr} {f : State → Byte} {sink : Nat} (hi : i.operand = .imp)
    (hs : s.sinkAt (stackAddr s.sp) = some sink) :
    ∃ t, pushByte i.opcode f s = .next t ∧
      s.afterSinkStore i [] {} sink (stackAddr s.sp) (f s) (s.sp - 1) s.p t := by
  have hu : s = (s.counted []).setPc (s.nextPc i) := by
    rw [State.nextPc, hi]
    exact congrArg s.setPc (BitVec.add_zero s.pc).symm
  refine runInstr_afterSinkStore hs hu (fun g hg => ?_) fun hn => ?_
  · rw [Run.get_bind, Run.bind_error (push_of_fault hg)]
  · obtain ⟨_, _, _, _, hstate⟩ := s.stored_state (stackAddr s.sp) (f s)
    rw [Run.get_bind, Run.bind_ok (push_of_no_fault hn), hstate]
    rfl

/-- A push in a state that differs from `s` in PC and SP. -/
theorem push_setPc_setSp_of_fault {s : State} {pc : Addr} {sp v : Byte} {f : FaultRecord}
    (h : (s.stored (stackAddr sp) v).1 = some f) :
    push v ((s.setPc pc).setSp sp) = .error f (((s.stored (stackAddr sp) v).2.setPc pc).setSp sp) := by
  have hstored := State.stored_setSp (s.setPc pc) (stackAddr sp) v sp
  rw [State.stored_setPc] at hstored
  refine (push_of_fault (s := (s.setPc pc).setSp sp) ((congrArg Prod.fst hstored).trans h)).trans ?_
  exact congrArg _ (congrArg Prod.snd hstored)

theorem push_setPc_setSp_of_no_fault {s : State} {pc : Addr} {sp v : Byte} (h : (s.stored (stackAddr sp) v).1 = none) :
    push v ((s.setPc pc).setSp sp) = .ok () (((s.stored (stackAddr sp) v).2.setPc pc).setSp (sp - 1)) := by
  have hstored := State.stored_setSp (s.setPc pc) (stackAddr sp) v sp
  rw [State.stored_setPc] at hstored
  refine (push_of_no_fault (s := (s.setPc pc).setSp sp) ((congrArg Prod.fst hstored).trans h)).trans ?_
  show EStateM.Result.ok () ((((s.setPc pc).setSp sp).stored (stackAddr sp) v).2.setSp (sp - 1)) = _
  rw [hstored]
  rfl

/-! ## JSR (R273, R373) -/

theorem runInstr_bind_ok {α : Type} {op : Byte} {x : Run α} {f : α → Run Timing} {s t : State} {v : α}
    (h : x s = .ok v t) : runInstr op (x >>= f) s = runInstr op (f v) t := by
  unfold runInstr
  rw [Run.bind_ok h]

theorem runInstr_get_bind (op : Byte) (f : State → Run Timing) (s : State) :
    runInstr op ((get : Run State) >>= f) s = runInstr op (f s) s := rfl

theorem State.setSp_self {s : State} {sp : Byte} (h : s.sp = sp) : s.setSp sp = s := by
  rw [← h]
  rfl

/-- A fault leaves nothing of SP and PC (R58). -/
theorem takeFault_setPc_setSp (f : FaultRecord) (s : State) (pc : Addr) (sp : Byte) :
    takeFault f ((s.setPc pc).setSp sp) = takeFault f s := rfl

theorem runInstr_push_fault (op : Byte) {v sp : Byte} {pc : Addr} {f : Unit → Run Timing} {s : State} {e : FaultRecord}
    (h : (s.stored (stackAddr sp) v).1 = some e) :
    runInstr op (push v >>= f) ((s.setPc pc).setSp sp) = .next (takeFault e (s.stored (stackAddr sp) v).2) :=
  (runInstr_error (Run.bind_error (push_setPc_setSp_of_fault h))).trans
    (congrArg _ (takeFault_setPc_setSp e (s.stored (stackAddr sp) v).2 pc sp))

/-- What the first store of JSR comes to, of the high byte. -/
def State.jsrHigh (s : State) : Option FaultRecord × State :=
  (s.counted [s.pc, s.pc + 1]).stored (stackAddr s.sp) (hi8 (s.pc + 1))

/-- What the second store of JSR comes to, of the low byte, in the state the first leaves. -/
def State.jsrLow (s : State) : Option FaultRecord × State :=
  s.jsrHigh.2.stored (stackAddr (s.sp - 1)) (lo8 (s.pc + 1))

theorem State.jsrLow_cfg (s : State) : s.jsrLow.2.cfg = s.cfg := by
  rw [State.jsrLow, State.stored_cfg, State.jsrHigh, State.stored_cfg, State.counted_cfg]

theorem State.jsrLow_cycles (s : State) : s.jsrLow.2.cycles = s.cycles := by
  rw [State.jsrLow, State.stored_cycles, State.jsrHigh, State.stored_cycles, State.counted_cycles]

/-- The end of JSR, past its pushes. -/
def jsrJump (a : Addr) : Run Timing := do
  modify fun s => s.setPc a
  return {}

theorem runInstr_jsrJump (a pc : Addr) (sp : Byte) (s : State) :
    runInstr 0x20 (jsrJump a) ((s.setPc pc).setSp sp) =
      .next { s with sp := sp, pc := a, cycles := s.cycles + BitVec.ofNat 64 (instrCost s.cfg 0x20 {}) } := rfl

section Jsr

variable (a : Addr) {s : State} (hr : s.allReadable [s.pc, s.pc + 1])
include hr

/-- JSR stores the bytes of the address of its last byte, PC being past the opcode. -/
theorem execJsr_pushes :
    exec (.jsr a) s =
      runInstr 0x20 (push (hi8 (s.pc + 1)) >>= fun _ => push (lo8 (s.pc + 1)) >>= fun _ => jsrJump a)
        (((s.counted [s.pc, s.pc + 1]).setPc (s.pc + 2)).setSp s.sp) := by
  obtain ⟨h0, h1⟩ := State.allReadable_cons.1 hr
  have hret : s.pc + 2 - 1 = s.pc + 1 := by bv_omega
  have hword := fetchWord_ok a h0 (h1 _ List.mem_cons_self)
  rw [State.setSp_self (s := (s.counted [s.pc, s.pc + 1]).setPc (s.pc + 2)) (sp := s.sp) rfl]
  show runInstr 0x20 (fetchWord a >>= _) s = _
  rw [runInstr_bind_ok hword, runInstr_get_bind, State.setPc_pc, hret]
  rfl

theorem execJsr_high_fault {f : FaultRecord} (h : s.jsrHigh.1 = some f) :
    exec (.jsr a) s = .next (takeFault f s.jsrHigh.2) :=
  (execJsr_pushes a hr).trans (runInstr_push_fault 0x20 h)

variable (hh : s.jsrHigh.1 = none)
include hh

/-- After the store of the high byte, the second push is in the state that store leaves. -/
theorem execJsr_high_done :
    exec (.jsr a) s =
      runInstr 0x20 (push (lo8 (s.pc + 1)) >>= fun _ => jsrJump a) ((s.jsrHigh.2.setPc (s.pc + 2)).setSp (s.sp - 1)) :=
  (execJsr_pushes a hr).trans (runInstr_bind_ok (push_setPc_setSp_of_no_fault hh))

theorem execJsr_low_fault {f : FaultRecord} (h : s.jsrLow.1 = some f) :
    exec (.jsr a) s = .next (takeFault f s.jsrLow.2) :=
  (execJsr_high_done a hr hh).trans (runInstr_push_fault 0x20 h)

theorem execJsr_done (h : s.jsrLow.1 = none) :
    exec (.jsr a) s =
      .next { s.jsrLow.2 with
        sp := s.sp - 2, pc := a, cycles := s.cycles + BitVec.ofNat 64 (instrCost s.cfg 0x20 {}) } := by
  have hpush : push (lo8 (s.pc + 1)) ((s.jsrHigh.2.setPc (s.pc + 2)).setSp (s.sp - 1)) =
      .ok () ((s.jsrLow.2.setPc (s.pc + 2)).setSp (s.sp - 1 - 1)) := push_setPc_setSp_of_no_fault h
  have hsp : s.sp - 1 - 1 = s.sp - 2 := by bv_omega
  rw [execJsr_high_done a hr hh, runInstr_bind_ok hpush, runInstr_jsrJump, hsp, s.jsrLow_cycles, s.jsrLow_cfg]
  dsimp only
  rw [s.jsrLow_cfg]

end Jsr

/-! ## Which instructions store one byte (R204 to R207, R226, R227, R245 to R252) -/

/-- What a Write instruction stores, of A, X and Y; none for every other instruction. -/
def storedByte : Mnemonic → Option (Byte → Byte → Byte → Byte)
  | .sta => some fun a _ _ => a
  | .stx => some fun _ x _ => x
  | .sty => some fun _ _ y => y
  | .stz => some fun _ _ _ => 0x00
  | _ => none

/-- What an RMW instruction stores and its new P, of A, P and the byte it loads; none for every other instruction. -/
def rmwResult : Mnemonic → Option (Byte → Byte → Byte → Byte × Byte)
  | .inc => some fun _ => incValue
  | .dec => some fun _ => decValue
  | .asl => some fun _ => aslValue
  | .lsr => some fun _ => lsrValue
  | .rol => some fun _ => rolValue
  | .ror => some fun _ => rorValue
  | .trb => some trbValue
  | .tsb => some tsbValue
  | .rmb b => some fun _ => rmbValue b
  | .smb b => some fun _ => smbValue b
  | _ => none

theorem storedByte_of_mem {s : State} {n : Mnemonic} {v : Byte}
    (h : (n, v) ∈ [(Mnemonic.sta, s.a), (.stx, s.x), (.sty, s.y), (.stz, 0x00)]) :
    ∃ f, storedByte n = some f ∧ f s.a s.x s.y = v := by
  simp only [List.mem_cons, List.not_mem_nil, or_false, Prod.mk.injEq] at h
  obtain ⟨rfl, rfl⟩ | ⟨rfl, rfl⟩ | ⟨rfl, rfl⟩ | ⟨rfl, rfl⟩ := h <;> exact ⟨_, rfl, rfl⟩

theorem rmwResult_of_mem {a p v : Byte} {n : Mnemonic} {r : Byte × Byte}
    (h : (n, r) ∈ [(Mnemonic.inc, incValue p v), (.dec, decValue p v), (.asl, aslValue p v), (.lsr, lsrValue p v),
        (.rol, rolValue p v), (.ror, rorValue p v), (.trb, trbValue a p v), (.tsb, tsbValue a p v)] ++
      (List.finRange 8).flatMap (fun b => [(Mnemonic.rmb b, rmbValue b p v), (.smb b, smbValue b p v)])) :
    ∃ f, rmwResult n = some f ∧ f a p v = r := by
  simp only [List.mem_append, List.mem_flatMap, List.mem_cons, List.not_mem_nil, or_false, Prod.mk.injEq] at h
  obtain h | ⟨b, -, ⟨rfl, rfl⟩ | ⟨rfl, rfl⟩⟩ := h
  · obtain ⟨rfl, rfl⟩ | ⟨rfl, rfl⟩ | ⟨rfl, rfl⟩ | ⟨rfl, rfl⟩ | ⟨rfl, rfl⟩ | ⟨rfl, rfl⟩ | ⟨rfl, rfl⟩ |
      ⟨rfl, rfl⟩ := h <;>
      exact ⟨_, rfl, rfl⟩
  · exact ⟨_, rfl, rfl⟩
  · exact ⟨_, rfl, rfl⟩

/-- An instruction of `CMOS65C02` alone that is well-formed has its meaning. -/
theorem cmosOnly_of_wellFormed {i : Instr} {s : State} (hw : WellFormed s.cfg.model i = true)
    (hn : WellFormed .nmos6502 i = false) (op : Byte) (meaning : State → StepResult) :
    cmosOnly op meaning s = meaning s := by
  refine cmosOnly_cmos ?_
  cases hc : s.cfg.model with
  | cmos65c02 => rfl
  | nmos6502 => rw [hc, hn] at hw; cases hw

theorem exec_eq_writeMem {i : Instr} {s : State} {m : MemMode} {f : Byte → Byte → Byte → Byte}
    (hf : storedByte i.mnemonic = some f) (hm : i.operand = .mem m) (hw : WellFormed s.cfg.model i = true) :
    exec i s = writeMem i.opcode m (fun s => f s.a s.x s.y) s := by
  cases i with
  | staZp _ | staZpx _ | staAbs _ | staAbsx _ | staAbsy _ | staIndx _ | staIndy _ | stxZp _ | stxZpy _ | stxAbs _
  | styZp _ | styZpx _ | styAbs _ =>
    cases hf
    cases hm
    rfl
  | staZpi _ | stzZp _ | stzZpx _ | stzAbs _ | stzAbsx _ =>
    cases hf
    cases hm
    exact cmosOnly_of_wellFormed hw rfl _ _
  | _ => cases hf

theorem exec_eq_rmwMem {i : Instr} {s : State} {m : MemMode} {f : Byte → Byte → Byte → Byte × Byte}
    (hf : rmwResult i.mnemonic = some f) (hm : i.operand = .mem m) (hw : WellFormed s.cfg.model i = true) :
    exec i s = rmwMem i.opcode m (fun s => f s.a s.p) s := by
  cases i with
  | incZp _ | incZpx _ | incAbs _ | incAbsx _ | decZp _ | decZpx _ | decAbs _ | decAbsx _ | aslZp _ | aslZpx _ | aslAbs _
  | aslAbsx _ | lsrZp _ | lsrZpx _ | lsrAbs _ | lsrAbsx _ | rolZp _ | rolZpx _ | rolAbs _ | rolAbsx _ | rorZp _
  | rorZpx _ | rorAbs _ | rorAbsx _ =>
    cases hf
    cases hm
    rfl
  | trbZp _ | trbAbs _ | tsbZp _ | tsbAbs _ | rmb0 _ | rmb1 _ | rmb2 _ | rmb3 _ | rmb4 _ | rmb5 _ | rmb6 _ | rmb7 _
  | smb0 _ | smb1 _ | smb2 _ | smb3 _ | smb4 _ | smb5 _ | smb6 _ | smb7 _ =>
    cases hf
    cases hm
    exact cmosOnly_of_wellFormed hw rfl _ _
  | incAcc | decAcc | aslAcc | lsrAcc | rolAcc | rorAcc => cases hm
  | _ => cases hf

theorem exec_eq_pushByte {i : Instr} {s : State} {v : Byte}
    (h : (i, v) ∈ [(Instr.pha, s.a), (.php, s.p ||| s.cfg.phpOrMask), (.phx, s.x), (.phy, s.y)])
    (hw : WellFormed s.cfg.model i = true) :
    i.operand = .imp ∧ ∃ f : State → Byte, exec i s = pushByte i.opcode f s ∧ f s = v := by
  simp only [List.mem_cons, List.not_mem_nil, or_false, Prod.mk.injEq] at h
  obtain ⟨rfl, rfl⟩ | ⟨rfl, rfl⟩ | ⟨rfl, rfl⟩ | ⟨rfl, rfl⟩ := h
  · exact ⟨rfl, State.a, rfl, rfl⟩
  · exact ⟨rfl, fun s => s.p ||| s.cfg.phpOrMask, rfl, rfl⟩
  · exact ⟨rfl, State.x, cmosOnly_of_wellFormed hw rfl _ _, rfl⟩
  · exact ⟨rfl, State.y, cmosOnly_of_wellFormed hw rfl _ _, rfl⟩

/-- Settles O12: an instruction with one store by its shape, JSR by which of its two stores raises a fault. -/
theorem storeToSinkCallsTheSink : Obligations.store_to_sink_calls_the_sink := by
  unfold Obligations.store_to_sink_calls_the_sink
  refine ⟨?_, ?_, ?_, ?_⟩
  · intro i s m v sink h hm hw hr hs
    obtain ⟨f, hf, rfl⟩ := storedByte_of_mem h
    rw [exec_eq_writeMem hf hm hw]
    exact writeMem_sink hm hr hs rfl
  · intro i s m r sink v h hm hw hr hs
    obtain ⟨f, hf, rfl⟩ := rmwResult_of_mem h
    rw [exec_eq_rmwMem hf hm hw]
    exact rmwMem_sink hm hr hs rfl
  · intro i s v sink h hw hs
    obtain ⟨hi, f, he, rfl⟩ := exec_eq_pushByte h hw
    rw [he]
    exact pushByte_sink hi hs
  · intro a s hr _ high low
    exact ⟨fun f => execJsr_high_fault a hr, fun f hh => execJsr_low_fault a hr hh, fun hh => execJsr_done a hr hh⟩

end Sys2Proof.Machine
end

section
/-! PROOFS. The opcode map read in both directions (30_encoding.md R141 to R148): each instruction is the entry at its own
opcode, and an entry's encoding is the bytes it was read from. Decoder, encoder and the empty entries follow from the two. -/

namespace Sys2Proof

/-! ## The opcode map and the encoder -/

/-- The lemmas of `Laws.RoundTrip`, one for each constructor, are one statement about every instruction. -/
theorem roundTrip (i : Instr) : Laws.RoundTrip.Statement i := by
  open Laws.RoundTrip in
  exact Instr.rec
    ldaImm ldaZp ldaZpx ldaAbs ldaAbsx ldaAbsy ldaIndx ldaIndy ldaZpi ldxImm ldxZp ldxZpy ldxAbs ldxAbsy ldyImm ldyZp
    ldyZpx ldyAbs ldyAbsx staZp staZpx staAbs staAbsx staAbsy staIndx staIndy staZpi stxZp stxZpy stxAbs styZp styZpx
    styAbs stzZp stzZpx stzAbs stzAbsx tax tay txa tya tsx txs adcImm adcZp adcZpx adcAbs adcAbsx adcAbsy adcIndx adcIndy
    adcZpi sbcImm sbcZp sbcZpx sbcAbs sbcAbsx sbcAbsy sbcIndx sbcIndy sbcZpi cmpImm cmpZp cmpZpx cmpAbs cmpAbsx cmpAbsy
    cmpIndx cmpIndy cmpZpi cpxImm cpxZp cpxAbs cpyImm cpyZp cpyAbs incAcc incZp incZpx incAbs incAbsx decAcc decZp decZpx
    decAbs decAbsx inx iny dex dey andImm andZp andZpx andAbs andAbsx andAbsy andIndx andIndy andZpi oraImm oraZp oraZpx
    oraAbs oraAbsx oraAbsy oraIndx oraIndy oraZpi eorImm eorZp eorZpx eorAbs eorAbsx eorAbsy eorIndx eorIndy eorZpi
    bitImm bitZp bitZpx bitAbs bitAbsx aslAcc aslZp aslZpx aslAbs aslAbsx lsrAcc lsrZp lsrZpx lsrAbs lsrAbsx rolAcc rolZp
    rolZpx rolAbs rolAbsx rorAcc rorZp rorZpx rorAbs rorAbsx trbZp trbAbs tsbZp tsbAbs rmb0 rmb1 rmb2 rmb3 rmb4 rmb5 rmb6
    rmb7 smb0 smb1 smb2 smb3 smb4 smb5 smb6 smb7 bpl bmi bvc bvs bcc bcs bne beq bra bbr0 bbr1 bbr2 bbr3 bbr4 bbr5 bbr6
    bbr7 bbs0 bbs1 bbs2 bbs3 bbs4 bbs5 bbs6 bbs7 jmpAbs jmpInd jmpAix jsr rts rti brk nop pha php pla plp phx phy plx ply
    clc cld cli clv sec sed sei i

/-- The encoding of an entry of the map is a beginning of the three bytes it was read from: row by row, column by column. -/
theorem encode_prefix_of_opcodeMap {op b1 b2 : Byte} {i : Instr} (h : opcodeMap op b1 b2 = some i) :
    encode i <+: [op, b1, b2] := by
  have hop : op = BitVec.ofNat 8 (16 * (op.toNat / 16) + op.toNat % 16) := by
    rw [Nat.div_add_mod, BitVec.ofNat_toNat, BitVec.setWidth_eq]
  have hrow : op.toNat / 16 < 16 := Nat.div_lt_of_lt_mul op.isLt
  rw [hop]
  unfold opcodeMap at h
  generalize op.toNat / 16 = row at h hrow
  generalize op.toNat % 16 = col at h
  interval_cases row
  all_goals
    simp only [opcodeRow0, opcodeRow1, opcodeRow2, opcodeRow3, opcodeRow4, opcodeRow5, opcodeRow6, opcodeRow7, opcodeRow8,
      opcodeRow9, opcodeRowA, opcodeRowB, opcodeRowC, opcodeRowD, opcodeRowE, opcodeRowF] at h
    split at h <;> cases h
  all_goals simp [encode, Instr.opcode, Instr.operand, Operand.bytes]

theorem opcode_of_opcodeMap {op b1 b2 : Byte} {i : Instr} (h : opcodeMap op b1 b2 = some i) : i.opcode = op :=
  (List.cons_prefix_cons.mp (encode_prefix_of_opcodeMap h)).1

theorem length_encode (i : Instr) : (encode i).length = i.length := Nat.add_comm _ _

/-! ## The decoder -/

theorem decode_cons {m : CpuModel} {op : Byte} {rest : List Byte} {i : Instr}
    (hi : opcodeMap op (rest.getD 0 0) (rest.getD 1 0) = some i) (hm : legalOpcode m op = true)
    (hl : i.length ≤ (op :: rest).length) : decode m (op :: rest) = .ok (i, (op :: rest).drop i.length) := by
  simp only [decode, hi, hm, if_true, if_neg (Nat.not_lt.mpr hl)]

/-- What a decode that succeeds has found: an entry of the map, legal on the model, with all its bytes. -/
theorem exists_of_decode_ok {m : CpuModel} {bytes rest : List Byte} {i : Instr} (h : decode m bytes = .ok (i, rest)) :
    ∃ op tail, bytes = op :: tail ∧ opcodeMap op (tail.getD 0 0) (tail.getD 1 0) = some i ∧ legalOpcode m op = true ∧
      i.length ≤ bytes.length ∧ rest = bytes.drop i.length := by
  cases bytes with
  | nil => cases h
  | cons op tail =>
    cases hi : opcodeMap op (tail.getD 0 0) (tail.getD 1 0) with
    | none => simp only [decode, hi, reduceCtorEq] at h
    | some j =>
      simp only [decode, hi] at h
      split_ifs at h with hm hl
      cases h
      exact ⟨op, tail, rfl, hi, hm, Nat.not_lt.mp hl, rfl⟩

/-- Settles O1: the map has the instruction at its own opcode, and the bytes left are those past its length. -/
theorem decodeOfEncodeIsTheInstruction : Obligations.decode_of_encode_is_the_instruction := by
  unfold Obligations.decode_of_encode_is_the_instruction
  intro m i rest hw
  have hl : (encode i).length = i.length := length_encode i
  calc decode m (encode i ++ rest)
      = .ok (i, (encode i ++ rest).drop i.length) :=
        decode_cons (roundTrip i rest) hw (hl ▸ (List.prefix_append (encode i) rest).length_le)
    _ = .ok (i, rest) := by rw [← hl, List.drop_left]

/-- The bytes the decoder looks at are those of the list, with zeros where it ends. -/
theorem window_prefix (op : Byte) (tail : List Byte) :
    [op, tail.getD 0 0, tail.getD 1 0] <+: (op :: tail) ++ [0, 0] := by
  match tail with
  | [] => exact ⟨[], rfl⟩
  | [b] => exact ⟨[0], rfl⟩
  | b :: b' :: tail => exact ⟨tail ++ [0, 0], rfl⟩

/-- Settles O2: the encoding is a beginning of the bytes looked at, and short enough to lie in the list. -/
theorem whatDecodesIsWellFormedAndItsEncoding : Obligations.what_decodes_is_well_formed_and_its_encoding := by
  unfold Obligations.what_decodes_is_well_formed_and_its_encoding
  intro m i bytes rest h
  obtain ⟨op, tail, rfl, hi, hm, hl, rfl⟩ := exists_of_decode_ok h
  have hw : WellFormed m i = true := by rw [WellFormed, opcode_of_opcodeMap hi, hm]
  have hp : encode i <+: op :: tail :=
    List.prefix_of_prefix_length_le ((encode_prefix_of_opcodeMap hi).trans (window_prefix op tail))
      (List.prefix_append _ _) (by rwa [length_encode])
  obtain ⟨left, hleft⟩ := hp
  rw [← length_encode, ← hleft, List.drop_left]
  exact ⟨hw, rfl⟩

/-! ## Opcodes with no instruction (R148 to R150) -/

/-- Whether an entry is empty does not depend on the bytes after the opcode. -/
theorem isSome_opcodeMap (op b1 b2 : Byte) : (opcodeMap op b1 b2).isSome = (opcodeMap op 0 0).isSome := by
  unfold opcodeMap
  split
  all_goals
    simp only [opcodeRow0, opcodeRow1, opcodeRow2, opcodeRow3, opcodeRow4, opcodeRow5, opcodeRow6, opcodeRow7, opcodeRow8,
      opcodeRow9, opcodeRowA, opcodeRowB, opcodeRowC, opcodeRowD, opcodeRowE, opcodeRowF]
    split <;> rfl

/-- The model does not admit the opcode, or its entry in the map is empty. -/
def isIllegalOpcode (m : CpuModel) (op : Byte) : Bool := !(legalOpcode m op && (opcodeMap op 0 0).isSome)

theorem isIllegalOpcode_eq_false_iff (m : CpuModel) (op : Byte) :
    isIllegalOpcode m op = false ↔ ∃ i : Instr, WellFormed m i = true ∧ i.opcode = op := by
  rw [isIllegalOpcode, Bool.not_eq_false', Bool.and_eq_true]
  constructor
  · rintro ⟨hm, hs⟩
    obtain ⟨i, hi⟩ := Option.isSome_iff_exists.mp hs
    have ho : i.opcode = op := opcode_of_opcodeMap hi
    exact ⟨i, by rw [WellFormed, ho, hm], ho⟩
  · rintro ⟨i, hw, rfl⟩
    refine ⟨hw, ?_⟩
    rw [← isSome_opcodeMap, roundTrip i []]
    rfl

theorem isIllegalOpcode_iff (m : CpuModel) (op : Byte) :
    (∀ i : Instr, WellFormed m i = true → i.opcode ≠ op) ↔ isIllegalOpcode m op = true := by
  rw [← Bool.not_eq_false, isIllegalOpcode_eq_false_iff]
  push Not
  rfl

/-- A list of bytes that is all bytes filtered by `p`, in increasing order, holds exactly the bytes with `p`. -/
theorem mem_iff_of_filter_eq {p : Byte → Bool} {l : List Byte} (h : ((List.range 256).map (BitVec.ofNat 8)).filter p = l)
    (op : Byte) : p op = true ↔ op ∈ l := by
  have hop : op ∈ (List.range 256).map (BitVec.ofNat 8) :=
    List.mem_map.mpr ⟨op.toNat, List.mem_range.mpr op.isLt, by rw [BitVec.ofNat_toNat, BitVec.setWidth_eq]⟩
  rw [← h, List.mem_filter, and_iff_right hop]

/-- Settles O4: the listed values are the illegal ones of the 256 opcodes, in increasing order. -/
theorem illegalOpcodesAreTheListedOnes : Obligations.illegal_opcodes_are_the_listed_ones := by
  unfold Obligations.illegal_opcodes_are_the_listed_ones
  refine ⟨fun op => (isIllegalOpcode_iff _ op).trans (mem_iff_of_filter_eq ?_ op),
    fun op => (isIllegalOpcode_iff _ op).trans (mem_iff_of_filter_eq ?_ op)⟩
  · decide +kernel
  · decide +kernel

/-! ## The opcodes of the bit instructions (R143) -/

/-- Bit number in bits 6:4; bit 7 tells RMB and BBR from SMB and BBS. None for every other mnemonic. -/
def bitOpcode : Mnemonic → Option Nat
  | .rmb b => some (0x07 + 0x10 * b.val)
  | .smb b => some (0x87 + 0x10 * b.val)
  | .bbr b => some (0x0F + 0x10 * b.val)
  | .bbs b => some (0x8F + 0x10 * b.val)
  | _ => none

theorem opcode_of_bitOpcode {i : Instr} {n : Nat} (h : bitOpcode i.mnemonic = some n) : i.opcode.toNat = n := by
  cases i with
  | rmb0 _ | rmb1 _ | rmb2 _ | rmb3 _ | rmb4 _ | rmb5 _ | rmb6 _ | rmb7 _ | smb0 _ | smb1 _ | smb2 _ | smb3 _
  | smb4 _ | smb5 _ | smb6 _ | smb7 _ | bbr0 _ _ | bbr1 _ _ | bbr2 _ _ | bbr3 _ _ | bbr4 _ _ | bbr5 _ _ | bbr6 _ _
  | bbr7 _ _ | bbs0 _ _ | bbs1 _ _ | bbs2 _ _ | bbs3 _ _ | bbs4 _ _ | bbs5 _ _ | bbs6 _ _ | bbs7 _ _ =>
    cases h
    rfl
  | _ => cases h

/-- Settles O3: the words by evaluation, the opcodes of the bit instructions by mnemonic. -/
theorem writtenWordsDecodeAsTheMapSays : Obligations.written_words_decode_as_the_map_says := by
  unfold Obligations.written_words_decode_as_the_map_says
  refine ⟨?_, by decide, by decide, by decide, fun i b => ⟨?_, ?_, ?_, ?_⟩⟩
  · intro m
    cases m <;> decide
  all_goals
    intro h
    exact opcode_of_bitOpcode (by rw [h]; rfl)

end Sys2Proof

namespace Sys2Proof.Machine

/-- The 59 opcodes marked `*` in the map: on `NMOS6502` the instruction of each is illegal. -/
theorem exec_of_cmosOnlyOpcode {op b1 b2 : Byte} {i : Instr} {s : State} (hs : s.cfg.model = .nmos6502)
    (hop : op ∈ cmosOnlyOpcodes) (hi : opcodeMap op b1 b2 = some i) :
    exec i s = .next (takeFault (.illegalOpcode op (s.pc - 1)) s) := by
  fin_cases hop <;> cases hi <;> exact cmosOnly_nmos hs

/-- Settles O8: an instruction that is not well-formed there is the map's entry at one of those opcodes. -/
theorem cmosOnlyInstructionIsIllegalOnNmos : Obligations.cmos_only_instruction_is_illegal_on_nmos := by
  unfold Obligations.cmos_only_instruction_is_illegal_on_nmos
  intro i s hs hw
  have hop : i.opcode ∈ cmosOnlyOpcodes := by
    simpa [WellFormed, legalOpcode] using hw
  exact exec_of_cmosOnlyOpcode hs hop (roundTrip i [])

end Sys2Proof.Machine
end

section
/-! PROOFS. The flag byte (R35, R36, R184) and the ALU functions (R189 to R193) as numbers: a flag is a bit of P, the binary
functions are sums and differences modulo 256, the decimal ones modulo 100. -/

namespace Sys2Proof.Machine

/-! ## The flags as bits of P -/

/-- Where R35 puts a flag in P. -/
def Flag.bit : Flag → Nat
  | .c => 0
  | .z => 1
  | .i => 2
  | .d => 3
  | .b => 4
  | .u => 5
  | .v => 6
  | .n => 7

theorem Flag.bit_lt (f : Flag) : f.bit < 8 := by cases f <;> decide

theorem Flag.mask_eq (f : Flag) : f.mask = BitVec.twoPow 8 f.bit := by cases f <;> rfl

theorem flag_eq_getLsbD (p : Byte) (f : Flag) : flag p f = p.getLsbD f.bit := by
  have hne : BitVec.twoPow 8 f.bit ≠ 0 := by cases f <;> decide
  rw [flag, f.mask_eq, BitVec.and_twoPow]
  cases p.getLsbD f.bit with
  | true => exact bne_iff_ne.2 hne
  | false => rfl

theorem flag_setFlag_same (p : Byte) (f : Flag) (v : Bool) : flag (setFlag p f v) f = v := by
  have hlt := f.bit_lt
  cases v <;> simp [flag_eq_getLsbD, setFlag, f.mask_eq, hlt]

theorem flag_setFlag (p : Byte) (f g : Flag) (v : Bool) : flag (setFlag p f v) g = if g = f then v else flag p g := by
  split_ifs with h
  · rw [h, flag_setFlag_same]
  · exact flag_setFlag_other p v h

theorem flag_setNZ_z (p v : Byte) : flag (setNZ p v) .z = (v == 0) := by
  rw [setNZ, flag_setFlag_other _ _ (by decide), flag_setFlag_same]

theorem flag_setNZ_n (p v : Byte) : flag (setNZ p v) .n = v.msb := flag_setFlag_same _ _ _

theorem flag_setNZ_other {f : Flag} (p v : Byte) (hz : f ≠ .z) (hn : f ≠ .n) : flag (setNZ p v) f = flag p f := by
  rw [setNZ, flag_setFlag_other _ _ hn, flag_setFlag_other _ _ hz]

/-- Settles O37: each flag is its bit of P, and SetNZ is one write of Z and one of N. -/
theorem flagWritesTouchOneBit : Obligations.flag_writes_touch_one_bit := by
  unfold Obligations.flag_writes_touch_one_bit
  intro p v
  have hbit := flag_eq_getLsbD p
  refine ⟨hbit .n, hbit .v, hbit .u, hbit .b, hbit .d, hbit .i, hbit .z, hbit .c, flag_setFlag p, flag_setNZ_z p v,
    (flag_setNZ_n p v).trans (BitVec.msb_eq_getLsbD_last v), fun f hf => ?_⟩
  exact flag_setNZ_other p v (by rintro rfl; simp at hf) (by rintro rfl; simp at hf)

/-! ## Binary sums and differences (R189, R190) -/

theorem bitNat_le_one (c : Bool) : bitNat c ≤ 1 := by cases c <;> decide

theorem addBin_toNat (a m : Byte) (c : Bool) : (addBin a m c).1.toNat = (a.toNat + m.toNat + bitNat c) % 256 :=
  BitVec.toNat_ofNat _ 8

theorem addBin_carry (a m : Byte) (c : Bool) : (addBin a m c).2.1 = decide (256 ≤ a.toNat + m.toNat + bitNat c) := rfl

/-- The sign identity of R189 looks at the three sign bits. -/
theorem sign_identity (a m r : Byte) :
    ((a ^^^ r) &&& (m ^^^ r) &&& 0x80 != 0) = ((a.msb ^^ r.msb) && (m.msb ^^ r.msb)) := by
  rw [← BitVec.msb_xor, ← BitVec.msb_xor, ← BitVec.msb_and, BitVec.msb_eq_getLsbD_last]
  exact flag_eq_getLsbD _ .n

/-- Both operands have the sign the result has not just where the signed sum does not fit 8 bits. -/
theorem addBin_overflow (a m : Byte) (c : Bool) :
    (addBin a m c).2.2 = decide (a.toInt + m.toInt + bitNat c < -128 ∨ 127 < a.toInt + m.toInt + bitNat c) := by
  have ha := a.isLt
  have hm := m.isLt
  have hk := bitNat_le_one c
  have hr := addBin_toNat a m c
  refine (sign_identity a m (addBin a m c).1).trans ?_
  rw [BitVec.msb_eq_decide, BitVec.msb_eq_decide, BitVec.msb_eq_decide, hr, BitVec.toInt_eq_toNat_cond,
    BitVec.toInt_eq_toNat_cond, Bool.eq_iff_iff]
  simp only [Bool.and_eq_true, bne_iff_ne, ne_eq, decide_eq_decide, decide_eq_true_eq]
  omega

theorem toNat_not_byte (m : Byte) : (~~~m).toNat = 255 - m.toNat := BitVec.toNat_not

theorem subBin_toNat (a m : Byte) (c : Bool) :
    (subBin a m c).1.toNat = (a.toNat + 256 - m.toNat - (1 - bitNat c)) % 256 := by
  have hm := m.isLt
  have hk := bitNat_le_one c
  rw [subBin, addBin_toNat, toNat_not_byte]
  omega

theorem subBin_no_borrow (a m : Byte) (c : Bool) :
    (subBin a m c).2.1 = decide (m.toNat + (1 - bitNat c) ≤ a.toNat) := by
  have hm := m.isLt
  have hk := bitNat_le_one c
  rw [subBin, addBin_carry, toNat_not_byte, decide_eq_decide]
  omega

/-- Settles O20: the subtraction adds 255 less the operand. -/
theorem binaryAluSumCarryOverflow : Obligations.binary_alu_sum_carry_overflow := by
  unfold Obligations.binary_alu_sum_carry_overflow
  refine ⟨fun a m c => ⟨addBin_toNat a m c, addBin_carry a m c, rfl, ?_, ?_, subBin_toNat a m c,
    subBin_no_borrow a m c⟩, by decide, by decide⟩
  · exact addBin_overflow a m c
  · exact congrArg (addBin a · c) BitVec.allOnes_xor.symm

/-! ## Decimal sums and differences (R191 to R193) -/

theorem isBCD_iff (v : Byte) : isBCD v = true ↔ v.toNat / 16 ≤ 9 ∧ v.toNat % 16 ≤ 9 := by
  rw [isBCD, Bool.and_eq_true, decide_eq_true_eq, decide_eq_true_eq]

theorem bcdValue_lt {v : Byte} (h : isBCD v = true) : bcdValue v < 100 := by
  rw [isBCD_iff] at h
  unfold bcdValue
  omega

/-- `enc` gives a BCD byte, of which `dec` is the number encoded. -/
theorem bcdEncode_spec {n : Nat} (h : n < 100) : isBCD (bcdEncode n) = true ∧ bcdValue (bcdEncode n) = n := by
  have he : (bcdEncode n).toNat = 16 * (n / 10) + n % 10 := by
    rw [bcdEncode, BitVec.toNat_ofNat]
    omega
  rw [isBCD_iff, bcdValue, he]
  omega

/-- Both operands are BCD bytes. -/
abbrev BcdOperands (a m : Byte) : Prop := (isBCD a && isBCD m) = true

theorem bcdOperands_iff (a m : Byte) :
    BcdOperands a m ↔
      (a.toNat / 16 ≤ 9 ∧ a.toNat % 16 ≤ 9) ∧ m.toNat / 16 ≤ 9 ∧ m.toNat % 16 ≤ 9 := by
  rw [BcdOperands, Bool.and_eq_true, isBCD_iff, isBCD_iff]

theorem addBcd_of_bcd {a m : Byte} (c : Bool) (h : BcdOperands a m) :
    addBcd a m c = some (bcdEncode ((bcdValue a + bcdValue m + bitNat c) % 100),
      decide (100 ≤ bcdValue a + bcdValue m + bitNat c)) := if_pos h

/-- The integer difference of R193 as a number modulo 100. -/
theorem subBcd_of_bcd {a m : Byte} (c : Bool) (h : BcdOperands a m) :
    subBcd a m c = some (bcdEncode ((bcdValue a + 100 - bcdValue m - (1 - bitNat c)) % 100),
      decide (bcdValue m + (1 - bitNat c) ≤ bcdValue a)) := by
  obtain ⟨ha, hm⟩ := (Bool.and_eq_true _ _).mp h
  have hav := bcdValue_lt ha
  have hmv := bcdValue_lt hm
  have hk := bitNat_le_one c
  rw [subBcd, if_pos h]
  dsimp only
  split_ifs with hn
  · exact congrArg₂ (fun n co => some (bcdEncode n, co)) (by omega) (decide_eq_false (by omega)).symm
  · exact congrArg₂ (fun n co => some (bcdEncode n, co)) (by omega) (decide_eq_true (by omega)).symm

theorem addBcd_eq_none_iff (a m : Byte) (c : Bool) : addBcd a m c = none ↔ ¬BcdOperands a m := by
  refine ⟨fun hn h => ?_, fun h => if_neg h⟩
  cases hn.symm.trans (addBcd_of_bcd c h)

theorem subBcd_eq_none_iff (a m : Byte) (c : Bool) : subBcd a m c = none ↔ ¬BcdOperands a m := by
  refine ⟨fun hn h => ?_, fun h => if_neg h⟩
  cases hn.symm.trans (subBcd_of_bcd c h)

/-- Settles O21: on BCD operands the answer is an encoded number below 100, and on others there is none. -/
theorem decimalAluSumDifferenceCarry : Obligations.decimal_alu_sum_difference_carry := by
  unfold Obligations.decimal_alu_sum_difference_carry
  intro a m c k bcd dec
  have hops : BcdOperands a m ↔ bcd a ∧ bcd m := bcdOperands_iff a m
  have encoded (n : Nat) : bcd (bcdEncode (n % 100)) ∧ dec (bcdEncode (n % 100)) = n % 100 := by
    obtain ⟨hb, hv⟩ := bcdEncode_spec (Nat.mod_lt n (by decide : 0 < 100))
    exact ⟨(isBCD_iff _).1 hb, hv⟩
  refine ⟨(addBcd_eq_none_iff a m c).trans (not_congr hops), (subBcd_eq_none_iff a m c).trans (not_congr hops),
    fun r co hr => ?_, fun r co hr => ?_⟩
  · have h : BcdOperands a m :=
      of_not_not fun hn => Option.some_ne_none _ (hr.symm.trans ((addBcd_eq_none_iff a m c).2 hn))
    cases hr.symm.trans (addBcd_of_bcd c h)
    exact and_assoc.1 ⟨encoded _, rfl⟩
  · have h : BcdOperands a m :=
      of_not_not fun hn => Option.some_ne_none _ (hr.symm.trans ((subBcd_eq_none_iff a m c).2 hn))
    cases hr.symm.trans (subBcd_of_bcd c h)
    exact and_assoc.1 ⟨encoded _, rfl⟩

end Sys2Proof.Machine
end

section
/-! PROOFS. The pieces of an instruction (40_dispatch.md): effective addresses as numbers (R167 to R173), the stack (R181 to
R183), and the step of a run as the instruction at PC (R161 to R163). -/

namespace Sys2Proof.Machine

/-! ## Effective addresses -/

theorem zeroPage_toNat (z : Byte) : (zeroPage z).toNat = z.toNat := by
  rw [zeroPage, w16_toNat]
  exact Nat.zero_add _

theorem zeroPage_add_toNat (z i : Byte) : (zeroPage (z + i)).toNat = (z.toNat + i.toNat) % 256 := by
  rw [zeroPage_toNat, BitVec.toNat_add]

/-- A zero-page address from a number, modulo 256 (R168). -/
theorem zeroPage_eq_ofNat {z : Byte} {n : Nat} (h : z.toNat = n % 256) : zeroPage z = BitVec.ofNat 16 (n % 256) := by
  apply BitVec.eq_of_toNat_eq
  rw [zeroPage_toNat, h, BitVec.toNat_ofNat]
  omega

/-- The word at a zero-page pointer, whose high byte wraps in page 0 (R171 to R173). -/
theorem pointer_toNat (s : State) {z : Byte} {n : Nat} (h : z.toNat = n % 256) :
    (w16 (s.peek (zeroPage (z + 1))) (s.peek (zeroPage z))).toNat =
      256 * (s.peek (BitVec.ofNat 16 ((n + 1) % 256))).toNat + (s.peek (BitVec.ofNat 16 (n % 256))).toNat := by
  have h1 : (z + 1).toNat = (n + 1) % 256 := by
    rw [BitVec.toNat_add, h]
    exact Nat.mod_add_mod n 256 1
  rw [w16_toNat, zeroPage_eq_ofNat h, zeroPage_eq_ofNat h1, Nat.mul_comm]

/-- Base and index modulo 2^16, with a page cross exactly where the high byte is another (R170, R172). -/
theorem indexed_spec (base : Addr) (index : Byte) :
    (indexed base index).addr.toNat = (base.toNat + index.toNat) % 65536 ∧
      ((indexed base index).cross = true ↔ base.toNat / 256 ≠ (base.toNat + index.toNat) % 65536 / 256) := by
  have ha : (base + indexOf index).toNat = (base.toNat + index.toNat) % 65536 := by
    rw [BitVec.toNat_add, indexOf, ← zeroPage, zeroPage_toNat]
  refine ⟨ha, ?_⟩
  rw [indexed, pageCross, bne_iff_ne, ← BitVec.toNat_ne_iff_ne, hi8_toNat, hi8_toNat, ha]

/-- Settles O38: zero-page sums wrap in a byte, indexed ones in 16 bits. -/
theorem effectiveAddressesWrapAndCross : Obligations.effective_addresses_wrap_and_cross := by
  unfold Obligations.effective_addresses_wrap_and_cross
  intro s z a byte pointer indexedBy
  have hptr : (w16 (s.peek (zeroPage (z + 1))) (s.peek (zeroPage z))).toNat = pointer z.toNat :=
    pointer_toNat s (Nat.mod_eq_of_lt z.isLt).symm
  have hindy : indexedBy (pointer z.toNat) s.y.toNat (s.ea (.indy z)) := hptr ▸ indexed_spec _ s.y
  exact ⟨zeroPage_toNat z, rfl, zeroPage_add_toNat z s.x, rfl, zeroPage_add_toNat z s.y, rfl, rfl, rfl,
    indexed_spec a s.x, indexed_spec a s.y, pointer_toNat s (BitVec.toNat_add z s.x), rfl, hindy, hptr, rfl⟩

/-! ## The stack -/

theorem stackAddr_eq_ofNat (sp : Byte) : stackAddr sp = BitVec.ofNat 16 (0x0100 + sp.toNat) := by
  apply BitVec.eq_of_toNat_eq
  have := sp.isLt
  rw [stackAddr, w16_toNat, BitVec.toNat_ofNat]
  exact (Nat.mod_eq_of_lt (by omega)).symm

theorem push_of_memWrite_ok {s t : State} {v : Byte} (h : memWrite (stackAddr s.sp) v s = .ok () t) :
    push v s = .ok () (t.setSp (t.sp - 1)) := by
  rw [push, Run.get_bind, Run.bind_ok h, Run.modify_apply]

theorem push_of_memWrite_error {s t : State} {v : Byte} {f : FaultRecord}
    (h : memWrite (stackAddr s.sp) v s = .error f t) : push v s = .error f t := by
  rw [push, Run.get_bind, Run.bind_error h]

theorem pop_eq_memRead (s : State) : pop s = memRead (stackAddr (s.sp + 1)) (s.setSp (s.sp + 1)) := rfl

/-- Settles O39: SP as a number, before the load and after the store. -/
theorem pushStoresThenPopIncrementsThenLoads : Obligations.push_stores_then_pop_increments_then_loads := by
  unfold Obligations.push_stores_then_pop_increments_then_loads
  intro s v top next up
  have htop : stackAddr s.sp = top := stackAddr_eq_ofNat s.sp
  have hsp : s.sp + 1 = BitVec.ofNat 8 (s.sp.toNat + 1) := by bv_omega
  have hnext : stackAddr (s.sp + 1) = next := by
    rw [stackAddr_eq_ofNat, BitVec.toNat_add]
    rfl
  have hpop : pop s = memRead next up := by
    rw [pop_eq_memRead, hnext, hsp]
    rfl
  refine ⟨fun t h => ?_, fun f t h => push_of_memWrite_error (htop ▸ h), fun b t h => hpop.trans h,
    fun f t h => hpop.trans h⟩
  have hdown : t.sp - 1 = BitVec.ofNat 8 (t.sp.toNat + 255) := by bv_omega
  rw [push_of_memWrite_ok (htop ▸ h), hdown]
  rfl

/-! ## A step of a run -/

theorem step_running {s : State} (hc : Backend.check s.cfg.backend = none) (hs : s.status = .running) :
    step s = stepInstr s := by
  rw [step, hc, hs]

theorem getElem?_fetchWindow (s : State) {k : Nat} (hk : k < 3) :
    s.fetchWindow[k]? = some (s.peek (s.pc + BitVec.ofNat 16 k)) := by
  match k with
  | 0 => rw [add_ofNat_zero]; rfl
  | 1 | 2 => rfl

theorem length_encode_le (i : Instr) : (encode i).length ≤ 3 :=
  (encode_prefix_of_opcodeMap (roundTrip i [])).length_le

/-- An encoding that stands from PC on is the beginning of what decoding sees. -/
theorem encode_prefix_fetchWindow {i : Instr} {s : State}
    (h : ∀ k < i.length, (encode i)[k]? = some (s.peek (s.pc + BitVec.ofNat 16 k))) : encode i <+: s.fetchWindow := by
  rw [List.prefix_iff_getElem?]
  intro k hk
  rw [← List.getElem?_eq_getElem hk, h k (length_encode i ▸ hk)]
  exact getElem?_fetchWindow s (Nat.lt_of_lt_of_le hk (length_encode_le i))

/-- Settles O5: the window decodes to the instruction whose encoding it begins with. -/
theorem stepRunsTheDecodedInstruction : Obligations.step_runs_the_decoded_instruction := by
  unfold Obligations.step_runs_the_decoded_instruction
  intro i s hc hs hr hw hb
  obtain ⟨rest, hrest⟩ := encode_prefix_fetchWindow hb
  have hd : decode s.cfg.model s.fetchWindow = .ok (i, rest) :=
    hrest ▸ decodeOfEncodeIsTheInstruction s.cfg.model i rest hw
  rw [step_running hc hs, stepInstr, fetchByte_ok hr]
  dsimp only
  rw [State.setPc_cfg, State.counted_cfg, hd]
  rfl

end Sys2Proof.Machine
end

section
/-! PROOFS. The cost of an instruction (40_dispatch.md R185 to R188) with the default `CYCLE_TABLE`: its rows by opcode are the
cells by column of R382. -/

namespace Sys2Proof.Machine

/-- Row by row, the default table has the cell of R382; a row of `CMOS65C02` alone has 0 on the other model, where the cell has
one figure. -/
theorem timingCell_eq (i : Instr) :
    timingCell i.mnemonic i.operand =
      (bif (defaultCycles i.opcode).nmos == 0 then (defaultCycles i.opcode).cmos else (defaultCycles i.opcode).nmos,
        (defaultCycles i.opcode).cmos, (defaultCycles i.opcode).penalty) := by
  cases i <;> dsimp only [Instr.opcode, Instr.mnemonic, Instr.operand] <;> rfl

/-- Every instruction of `NMOS6502` has its own figure there. -/
theorem nmos_ne_zero {i : Instr} (hw : WellFormed .nmos6502 i = true) : (defaultCycles i.opcode).nmos ≠ 0 := by
  have legal : ∀ op : Byte, isIllegalOpcode .nmos6502 op = false → (defaultCycles op).nmos ≠ 0 := by decide +kernel
  exact legal _ ((isIllegalOpcode_eq_false_iff _ _).2 ⟨i, hw, rfl⟩)

theorem cycleEntry_default {cfg : Config} (h : cfg.cycleTable = []) (op : Byte) :
    cycleEntry cfg op = defaultCycles op := by
  rw [cycleEntry, h]
  rfl

/-- The base of a legal instruction is the figure of its cell for the model (R185). -/
theorem baseCycles_of_timingCell {cfg : Config} {i : Instr} {nmos cmos : Nat} {penalty : PenaltyClass}
    (h : cfg.cycleTable = []) (hw : WellFormed cfg.model i = true)
    (hcell : timingCell i.mnemonic i.operand = (nmos, cmos, penalty)) :
    baseCycles cfg i.opcode = if cfg.model = .nmos6502 then nmos else cmos := by
  rw [timingCell_eq] at hcell
  cases hcell
  rw [baseCycles, cycleEntry_default h]
  cases hm : cfg.model with
  | cmos65c02 => rfl
  | nmos6502 => rw [if_pos rfl, beq_false_of_ne (nmos_ne_zero (hm ▸ hw)), cond_false]

/-- The penalty of each class (R186): a page cross, or a branch taken. -/
theorem penaltyCycles_eq (cfg : Config) (op : Byte) (t : Timing) :
    penaltyCycles cfg op t =
      (if t.cross = true ∧ ((cycleEntry cfg op).penalty = .page ∨
        (cycleEntry cfg op).penalty = .c02page ∧ cfg.model = .cmos65c02) then 1 else 0) +
      (if t.taken = true ∧ ((cycleEntry cfg op).penalty = .branch ∨ (cycleEntry cfg op).penalty = .bitbranch) then
        (if t.cross = true then 2 else 1) else 0) := by
  unfold penaltyCycles
  cases (cycleEntry cfg op).penalty <;> simp

theorem decimalExtra_eq (cfg : Config) (t : Timing) :
    decimalExtra cfg t =
      if t.decimal = true ∧ cfg.model = .cmos65c02 ∧ cfg.c02DecimalExtraCycle = true then 1 else 0 := by
  simp only [decimalExtra, Bool.and_eq_true, decide_eq_true_eq, and_assoc]

/-- With the default table the model and the decimal extra cycle are all a cost takes from the configuration. -/
theorem instrCost_default {cfg : Config} (h : cfg.cycleTable = []) (op : Byte) (t : Timing) :
    instrCost cfg op t =
      instrCost { Config.atReset with model := cfg.model, c02DecimalExtraCycle := cfg.c02DecimalExtraCycle } op t := by
  obtain ⟨_, _, _, _, _, _, _, _, _, _, _, _⟩ := cfg
  cases h
  rfl

/-- Settles O40: base, penalty and extra cycle of a cell, and the written costs by evaluation on each model. -/
theorem cycleCostsOfTheDefaultTable : Obligations.cycle_costs_of_the_default_table := by
  unfold Obligations.cycle_costs_of_the_default_table
  intro cfg h
  refine ⟨fun i t nmos cmos penalty hw hcell => ?_, ?_⟩
  · have hp : (cycleEntry cfg i.opcode).penalty = penalty := by
      rw [cycleEntry_default h]
      exact congrArg (·.2.2) ((timingCell_eq i).symm.trans hcell)
    rw [instrCost, baseCycles_of_timingCell h hw hcell, penaltyCycles_eq, decimalExtra_eq, hp, ← Nat.add_assoc]
  · simp only [instrCost_default h]
    generalize cfg.model = model
    generalize cfg.c02DecimalExtraCycle = extra
    cases model <;> cases extra <;> decide

end Sys2Proof.Machine
end

section
/-! PROOFS. Which bytes an instruction changes (40_dispatch.md R180; 20_memory.md R66, R102): none where it loads alone, else those
its effective address or the stack bytes it pushes resolve to. -/

namespace Sys2Proof.Machine

/-! ## Writes at some bytes alone -/

/-- `m'` is `m` after writes at bytes of `P`. -/
inductive WritesIn (P : Phys → Prop) (m : Memory) : Memory → Prop
  | refl : WritesIn P m m
  | write {m' : Memory} {ph : Phys} (v : Byte) : WritesIn P m m' → P ph → WritesIn P m (m'.write ph v)

section WritesIn

variable {P : Phys → Prop} {m m' : Memory}

theorem WritesIn.trans {m'' : Memory} (h : WritesIn P m m') (h' : WritesIn P m' m'') : WritesIn P m m'' := by
  induction h' with
  | refl => exact h
  | write v _ hp ih => exact ih.write v hp

theorem WritesIn.eq_of_forall_not (h : WritesIn P m m') (hP : ∀ ph, ¬P ph) : m' = m := by
  cases h with
  | refl => rfl
  | write v _ hp => exact absurd hp (hP _)

theorem WritesIn.read_other (h : WritesIn P m m') {ph : Phys} (hph : ¬P ph) : m'.read ph = m.read ph := by
  induction h with
  | refl => rfl
  | write v _ hp ih => rw [Arrays.read_write_other _ v (by rintro rfl; exact hph hp), ih]

/-- Where no byte of `P` is a control byte, every address resolves as before. -/
theorem WritesIn.resolve_eq (h : WritesIn P m m') {b : Backend} (hc : ∀ ph, P ph → isControlByte b ph = false) (a : Addr) :
    resolve b m' a = resolve b m a := by
  induction h with
  | refl => rfl
  | write v _ hp ih => rw [resolve_write b _ _ v a (hc _ hp), ih]

end WritesIn

/-- The bytes that addresses of a list resolve to. -/
def State.places (s : State) (l : List Addr) (ph : Phys) : Prop := ∃ a ∈ l, s.resolve a = some ph

/-! ## Pieces of an instruction that store nothing -/

/-- Configuration and memory are as they were. -/
structure SameMemory (s t : State) : Prop where
  cfg : t.cfg = s.cfg
  mem : t.mem = s.mem

theorem SameMemory.trans {s t u : State} (h : SameMemory s t) (h' : SameMemory t u) : SameMemory s u :=
  ⟨h'.cfg.trans h.cfg, h'.mem.trans h.mem⟩

theorem SameMemory.resolve {s t : State} (h : SameMemory s t) (a : Addr) : t.resolve a = s.resolve a := by
  unfold State.resolve
  rw [h.cfg, h.mem]

theorem SameMemory.sinkAt {s t : State} (h : SameMemory s t) (a : Addr) : t.sinkAt a = s.sinkAt a := by
  unfold State.sinkAt
  rw [h.cfg]

/-- A piece of an instruction that stores nothing. -/
def Run.Quiet {α : Type} (x : Run α) : Prop := Run.Moves SameMemory x

theorem Run.Quiet.bind {α β : Type} {x : Run α} {f : α → Run β} (hx : Run.Quiet x) (hf : ∀ v, Run.Quiet (f v)) :
    Run.Quiet (x >>= f) := Run.Moves.bind (R := SameMemory) (fun _ _ _ h h' => h.trans h') hx hf

theorem Run.Quiet.ret {α : Type} (v : α) : Run.Quiet (pure v : Run α) := fun _ => ⟨rfl, rfl⟩

theorem Run.Quiet.get : Run.Quiet (get : Run State) := fun _ => ⟨rfl, rfl⟩

theorem Run.Quiet.modified {f : State → State} (hf : ∀ s, SameMemory s (f s)) : Run.Quiet (modify f : Run Unit) := hf

/-- A register write, and then the end of the instruction. -/
theorem Run.Quiet.last {f : State → State} (hf : ∀ s, SameMemory s (f s)) (t : Timing) :
    Run.Quiet (modify f >>= fun _ => pure t : Run Timing) := .bind (.modified hf) fun _ => .ret t

theorem Run.Quiet.setPc (f : State → Addr) (t : Timing) :
    Run.Quiet (modify (fun s => s.setPc (f s)) >>= fun _ => pure t : Run Timing) :=
  .last (f := fun s => s.setPc (f s)) (fun _ => ⟨rfl, rfl⟩) t

theorem Run.Quiet.memRead (a : Addr) : Run.Quiet (memRead a) := by
  intro s
  unfold Run.endState Machine.memRead
  cases s.resolve a <;> exact ⟨rfl, rfl⟩

theorem Run.Quiet.fetchByte : Run.Quiet fetchByte := by
  unfold Machine.fetchByte
  exact .bind .get fun _ => .bind (.memRead _) fun _ => .bind (.modified fun _ => ⟨rfl, rfl⟩) fun _ => .ret _

theorem Run.Quiet.fetchOperand (b : Byte) : Run.Quiet (fetchOperand b) := .bind .fetchByte fun _ => .ret b

theorem Run.Quiet.fetchWord (a : Addr) : Run.Quiet (fetchWord a) :=
  .bind .fetchByte fun _ => .bind .fetchByte fun _ => .ret a

theorem Run.Quiet.resolveEa (m : MemMode) : Run.Quiet (resolveEa m) := by
  unfold Machine.resolveEa
  cases m with
  | zp z => exact .bind (.fetchOperand z) fun _ => .ret _
  | zpx z | zpy z => exact .bind (.fetchOperand z) fun _ => .bind .get fun _ => .ret _
  | abs a => exact .bind (.fetchWord a) fun _ => .ret _
  | absx a | absy a => exact .bind (.fetchWord a) fun _ => .bind .get fun _ => .ret _
  | indx z =>
    exact .bind (.fetchOperand z) fun _ => .bind .get fun _ => .bind (.memRead _) fun _ =>
      .bind (.memRead _) fun _ => .ret _
  | indy z =>
    exact .bind (.fetchOperand z) fun _ => .bind (.memRead _) fun _ => .bind (.memRead _) fun _ =>
      .bind .get fun _ => .ret _
  | zpi z =>
    exact .bind (.fetchOperand z) fun _ => .bind (.memRead _) fun _ => .bind (.memRead _) fun _ => .ret _

theorem Run.Quiet.relBranch (c : Bool) (r : Byte) : Run.Quiet (relBranch c r) := by
  unfold Machine.relBranch
  cases c with
  | false => exact .setPc _ _
  | true => exact .bind (.fetchOperand r) fun _ => .bind .get fun _ => .setPc _ _

theorem Run.Quiet.indirectTarget (a : Addr) : Run.Quiet (indirectTarget a) :=
  .bind (.fetchWord a) fun _ => .bind .get fun _ => .bind (.memRead _) fun _ => .bind (.memRead _) fun _ => .ret _

theorem Run.Quiet.indexedIndirectTarget (a : Addr) : Run.Quiet (indexedIndirectTarget a) :=
  .bind (.fetchWord a) fun _ => .bind .get fun _ => .bind (.memRead _) fun _ => .bind (.memRead _) fun _ => .ret _

theorem Run.Quiet.pop : Run.Quiet pop :=
  .bind (.modified fun _ => ⟨rfl, rfl⟩) fun _ => .bind .get fun _ => .memRead _

theorem Run.Quiet.decimalResult (m : Byte) (r : Option (Byte × Bool)) : Run.Quiet (decimalResult m r) := by
  unfold Machine.decimalResult
  refine Run.Moves.get_bind fun s => ?_
  cases r <;> exact ⟨rfl, rfl⟩

theorem Run.Quiet.binaryResult (r : Byte × Bool × Bool) : Run.Quiet (binaryResult r) := fun _ => ⟨rfl, rfl⟩

theorem Run.Quiet.adc (m : Byte) : Run.Quiet (adc m) := by
  unfold Machine.adc
  refine .bind .get fun s => ?_
  split
  · exact .decimalResult m _
  · exact .binaryResult _

theorem Run.Quiet.sbc (m : Byte) : Run.Quiet (sbc m) := by
  unfold Machine.sbc
  refine .bind .get fun s => ?_
  split
  · exact .decimalResult m _
  · exact .binaryResult _

/-! ## The address a resolver yields -/

theorem Run.exists_of_bind_ok {α β : Type} {x : Run α} {f : α → Run β} {s t : State} {w : β}
    (h : (x >>= f) s = .ok w t) : ∃ v u, x s = .ok v u ∧ f v u = .ok w t := by
  cases hx : x s with
  | ok v u => exact ⟨v, u, rfl, (Run.bind_ok hx).symm.trans h⟩
  | error e u => cases (Run.bind_error hx).symm.trans h

theorem memRead_inv {s t : State} {a : Addr} {v : Byte} (h : memRead a s = .ok v t) :
    v = s.peek a ∧ t = s.counted [a] := by
  cases hr : s.readable a with
  | true => cases (memRead_ok hr).symm.trans h; exact ⟨rfl, rfl⟩
  | false => cases (memRead_error hr).symm.trans h

theorem fetchByte_inv {s t : State} {v : Byte} (h : fetchByte s = .ok v t) :
    t = (s.counted [s.pc]).setPc (s.pc + 1) := by
  cases hr : s.readable s.pc with
  | true => cases (fetchByte_ok hr).symm.trans h; rfl
  | false => cases (fetchByte_error hr).symm.trans h

theorem fetchOperand_inv {s t : State} {b v : Byte} (h : fetchOperand b s = .ok v t) :
    v = b ∧ t = (s.counted [s.pc]).setPc (s.pc + 1) := by
  obtain ⟨w, u, hw, h⟩ := Run.exists_of_bind_ok h
  cases h
  exact ⟨rfl, fetchByte_inv hw⟩

theorem fetchWord_inv {s t : State} {a v : Addr} (h : fetchWord a s = .ok v t) :
    v = a ∧ t = (s.counted [s.pc, s.pc + 1]).setPc (s.pc + 1 + 1) := by
  obtain ⟨_, u, hu, h⟩ := Run.exists_of_bind_ok h
  obtain ⟨_, u', hu', h⟩ := Run.exists_of_bind_ok h
  cases h
  exact ⟨rfl, (fetchByte_inv hu').trans (by rw [fetchByte_inv hu]; rfl)⟩

/-- The loads of a pointer, low byte first, and what is made of its bytes. -/
theorem pointer_inv {s t : State} {a b : Addr} {g : Byte → Byte → Run Ea} {e : Ea}
    (h : (memRead a >>= fun l => memRead b >>= fun h => g l h) s = .ok e t) :
    g (s.peek a) (s.peek b) ((s.counted [a]).counted [b]) = .ok e t := by
  obtain ⟨_, _, hl, h⟩ := Run.exists_of_bind_ok h
  obtain ⟨rfl, rfl⟩ := memRead_inv hl
  obtain ⟨_, _, hh, h⟩ := Run.exists_of_bind_ok h
  obtain ⟨rfl, rfl⟩ := memRead_inv hh
  exact h

/-- A resolver that completes has computed the effective address in the state it began in. -/
theorem resolveEa_inv {m : MemMode} {s t : State} {e : Ea} (h : resolveEa m s = .ok e t) : e = s.ea m := by
  cases m with
  | zp z | zpx z | zpy z =>
    obtain ⟨_, _, hz, h⟩ := Run.exists_of_bind_ok h
    obtain ⟨rfl, rfl⟩ := fetchOperand_inv hz
    cases h
    rfl
  | abs a | absx a | absy a =>
    obtain ⟨_, _, ha, h⟩ := Run.exists_of_bind_ok h
    obtain ⟨rfl, rfl⟩ := fetchWord_inv ha
    cases h
    rfl
  | indx z =>
    obtain ⟨_, _, hz, h⟩ := Run.exists_of_bind_ok h
    obtain ⟨rfl, rfl⟩ := fetchOperand_inv hz
    rw [Run.get_bind] at h
    cases pointer_inv h
    rfl
  | indy z | zpi z =>
    obtain ⟨_, _, hz, h⟩ := Run.exists_of_bind_ok h
    obtain ⟨rfl, rfl⟩ := fetchOperand_inv hz
    cases pointer_inv h
    rfl

/-! ## Pieces that store -/

/-- From `s`, a piece of an instruction writes at bytes of `P` alone, whichever way it ends. -/
def Run.StoresIn {α : Type} (P : Phys → Prop) (x : Run α) (s : State) : Prop :=
  WritesIn P s.mem (Run.endState x s).mem

section StoresIn

variable {P : Phys → Prop} {s : State}

theorem Run.Quiet.storesIn {α : Type} {x : Run α} (h : Run.Quiet x) : Run.StoresIn P x s := by
  unfold Run.StoresIn
  rw [(h s).mem]
  exact .refl

theorem Run.StoresIn.bind {α β : Type} {x : Run α} {f : α → Run β} (hx : Run.StoresIn P x s)
    (hf : ∀ v t, x s = .ok v t → Run.StoresIn P (f v) t) : Run.StoresIn P (x >>= f) s := by
  unfold Run.StoresIn Run.endState at hx ⊢
  cases hs : x s with
  | ok v t => rw [hs] at hx; rw [Run.bind_ok hs]; exact hx.trans (hf v t hs)
  | error e t => rw [hs] at hx; rw [Run.bind_error hs]; exact hx

/-- A store and what comes after it, if that stores nothing. -/
theorem Run.StoresIn.bind_quiet {α β : Type} {x : Run α} {f : α → Run β} (hx : Run.StoresIn P x s)
    (hf : ∀ v, Run.Quiet (f v)) : Run.StoresIn P (x >>= f) s := hx.bind fun v _ _ => (hf v).storesIn

theorem Run.StoresIn.get_bind {β : Type} {f : State → Run β} (h : Run.StoresIn P (f s) s) :
    Run.StoresIn P ((get : Run State) >>= f) s := h

theorem Run.StoresIn.memWrite {a : Addr} {v : Byte} (hs : s.sinkAt a = none) (hP : ∀ ph, s.resolve a = some ph → P ph) :
    Run.StoresIn P (memWrite a v) s := by
  unfold Run.StoresIn Run.endState
  cases hp : s.resolve a with
  | none => rw [memWrite_error v hs hp]; exact .refl
  | some ph => rw [memWrite_ok v hs hp]; exact WritesIn.refl.write v (hP ph hp)

theorem Run.StoresIn.push {v : Byte} (hs : s.sinkAt (stackAddr s.sp) = none)
    (hP : ∀ ph, s.resolve (stackAddr s.sp) = some ph → P ph) : Run.StoresIn P (push v) s :=
  .get_bind (.bind_quiet (.memWrite hs hP) fun _ => .modified fun _ => ⟨rfl, rfl⟩)

end StoresIn

/-! ## Shapes -/

/-- Where no address of `l` has a sink, the result is a state whose memory differs at the bytes of `l` alone. -/
def Stores (l : List Addr) (s : State) (r : StepResult) : Prop :=
  (∀ a ∈ l, s.sinkAt a = none) → ∀ t, r = .next t → WritesIn (s.places l) s.mem t.mem

theorem Stores.runInstr {op : Byte} {l : List Addr} {body : Run Timing} {s : State}
    (h : (∀ a ∈ l, s.sinkAt a = none) → Run.StoresIn (s.places l) body s) : Stores l s (runInstr op body s) := by
  intro hs t ht
  have hb := h hs
  unfold Run.StoresIn Run.endState at hb
  cases hx : body s with
  | ok c u => rw [hx] at hb; cases ht.symm.trans (runInstr_ok hx); exact hb
  | error f u => rw [hx] at hb; cases ht.symm.trans (runInstr_error hx); exact hb

section Shapes

variable {op : Byte} {m : MemMode} {s : State}

theorem Stores.quiet {body : Run Timing} (h : Run.Quiet body) : Stores [] s (Machine.runInstr op body s) :=
  .runInstr fun _ => h.storesIn

theorem Stores.cmosOnly {l : List Addr} {meaning : State → StepResult} (h : Stores l s (meaning s)) :
    Stores l s (cmosOnly op meaning s) := by
  cases hc : s.cfg.model with
  | cmos65c02 => rw [cmosOnly_cmos hc]; exact h
  | nmos6502 =>
    intro _ t ht
    cases ht.symm.trans (cmosOnly_nmos hc)
    exact .refl

/-- A result given outright, its memory that of `s`. -/
theorem Stores.of_next {r : StepResult} {t : State} (hr : r = .next t) (hm : t.mem = s.mem) : Stores [] s r := by
  intro _ u hu
  cases hr.symm.trans hu
  rw [hm]
  exact .refl

theorem Stores.readImm {v : Byte} {f : State → Byte → State} (hf : ∀ s v, SameMemory s (f s v)) :
    Stores [] s (readImm op v f s) :=
  .quiet (.bind (.fetchOperand v) fun _ => .last (fun s => hf s _) _)

theorem Stores.readMem {f : State → Byte → State} (hf : ∀ s v, SameMemory s (f s v)) :
    Stores [] s (readMem op m f s) :=
  .quiet (.bind (.resolveEa m) fun _ => .bind (.memRead _) fun _ => .last (fun s => hf s _) _)

theorem Stores.arithImm {v : Byte} {f : Byte → Run Unit} (hf : ∀ v, Run.Quiet (f v)) :
    Stores [] s (arithImm op v f s) :=
  .quiet (.bind .get fun _ => .bind (.fetchOperand v) fun _ => .bind (hf _) fun _ => .ret _)

theorem Stores.arithMem {f : Byte → Run Unit} (hf : ∀ v, Run.Quiet (f v)) : Stores [] s (arithMem op m f s) :=
  .quiet (.bind .get fun _ => .bind (.resolveEa m) fun _ => .bind (.memRead _) fun _ => .bind (hf _) fun _ => .ret _)

theorem Stores.bitBranch {b : Fin 8} {want : Bool} {z r : Byte} : Stores [] s (bitBranch op b want z r s) :=
  .quiet (.bind (.fetchOperand z) fun _ => .bind (.memRead _) fun _ => .relBranch _ r)

theorem Stores.pullByte {f : State → Byte → State} (hf : ∀ s v, SameMemory s (f s v)) :
    Stores [] s (pullByte op f s) :=
  .quiet (.bind .pop fun _ => .last (fun s => hf s _) _)

/-- A store to an address of the list, in a state where configuration and memory are as they were. -/
theorem Run.StoresIn.memWrite_of_mem {l : List Addr} {a : Addr} {v : Byte} {t : State} (h : SameMemory s t) (ha : a ∈ l)
    (hs : ∀ a ∈ l, s.sinkAt a = none) : Run.StoresIn (s.places l) (Machine.memWrite a v) t :=
  .memWrite ((h.sinkAt a).trans (hs a ha)) fun _ hp => ⟨a, ha, (h.resolve a).symm.trans hp⟩

theorem Stores.writeMem {v : State → Byte} : Stores [(s.ea m).addr] s (writeMem op m v s) := by
  refine .runInstr fun hs => (Run.Quiet.resolveEa m).storesIn.bind fun e t ht => ?_
  cases resolveEa_inv ht
  have hsame : SameMemory s t := (Run.Quiet.resolveEa m).of_ok ht
  exact .get_bind (.bind_quiet (.memWrite_of_mem hsame List.mem_cons_self hs) fun _ => .ret _)

theorem Stores.rmwMem {f : State → Byte → Byte × Byte} : Stores [(s.ea m).addr] s (rmwMem op m f s) := by
  refine .runInstr fun hs => (Run.Quiet.resolveEa m).storesIn.bind fun e t ht =>
    (Run.Quiet.memRead _).storesIn.bind fun v u hu => ?_
  cases resolveEa_inv ht
  have hsame : SameMemory s u := ((Run.Quiet.resolveEa m).of_ok ht).trans ((Run.Quiet.memRead _).of_ok hu)
  exact .get_bind (.bind_quiet (.memWrite_of_mem hsame List.mem_cons_self hs) fun _ =>
    .last (f := fun t => t.setP (f u v).2) (fun _ => ⟨rfl, rfl⟩) _)

theorem Stores.pushByte {v : State → Byte} : Stores [stackAddr s.sp] s (pushByte op v s) :=
  .runInstr fun hs => .get_bind (.bind_quiet
    (.push (hs _ List.mem_cons_self) fun _ hp => ⟨stackAddr s.sp, List.mem_cons_self, hp⟩) fun _ => .ret _)

/-- A push that completes without a sink has resolved, and SP has fallen. -/
theorem push_inv {t : State} {v : Byte} {w : Unit} (hs : s.sinkAt (stackAddr s.sp) = none) (h : push v s = .ok w t) :
    ∃ ph, s.resolve (stackAddr s.sp) = some ph ∧ t = (s.storeAt ph v).setSp (s.sp - 1) := by
  cases hp : s.resolve (stackAddr s.sp) with
  | none => cases (push_of_memWrite_error (memWrite_error v hs hp)).symm.trans h
  | some ph => cases (push_ok v hs hp).symm.trans h; exact ⟨ph, rfl, rfl⟩

/-- JSR pushes two bytes, the second at the next stack address, which the first leaves where it was (R273). -/
theorem Stores.jsr (a : Addr) (s : State) : Stores [stackAddr s.sp, stackAddr (s.sp - 1)] s (execJsr a s) := by
  refine .runInstr fun hs => (Run.Quiet.fetchWord a).storesIn.bind fun b t ht => ?_
  obtain ⟨-, rfl⟩ := fetchWord_inv ht
  have hhigh : s.sinkAt (stackAddr s.sp) = none := hs _ List.mem_cons_self
  have hlow : s.sinkAt (stackAddr (s.sp - 1)) = none := hs _ (List.mem_cons_of_mem _ List.mem_cons_self)
  refine .get_bind (.bind (.push hhigh fun ph hp => ⟨_, List.mem_cons_self, hp⟩) fun _ u hu => ?_)
  obtain ⟨ph, hp, rfl⟩ := push_inv (s := (s.counted _).setPc _) hhigh hu
  refine .bind_quiet (.push hlow fun ph' hp' => ?_) fun _ => .setPc _ _
  exact ⟨_, List.mem_cons_of_mem _ List.mem_cons_self, (resolve_stack_storeAt (s.sp - 1) hp).symm.trans hp'⟩

end Shapes

/-! ## Every instruction -/

/-- Every instruction writes memory at the bytes of its stored addresses alone. -/
theorem exec_stores (i : Instr) (s : State) : Stores (s.storeAddrs i) s (exec i s) := by
  cases i with
  | ldaImm _ | ldxImm _ | ldyImm _ | cmpImm _ | cpxImm _ | cpyImm _ | andImm _ | oraImm _ | eorImm _ =>
    exact .readImm fun _ _ => ⟨rfl, rfl⟩
  | bitImm _ => exact .cmosOnly (.readImm fun _ _ => ⟨rfl, rfl⟩)
  | ldaZp _ | ldaZpx _ | ldaAbs _ | ldaAbsx _ | ldaAbsy _ | ldaIndx _ | ldaIndy _ | ldxZp _ | ldxZpy _ | ldxAbs _
  | ldxAbsy _ | ldyZp _ | ldyZpx _ | ldyAbs _ | ldyAbsx _ | cmpZp _ | cmpZpx _ | cmpAbs _ | cmpAbsx _ | cmpAbsy _
  | cmpIndx _ | cmpIndy _ | cpxZp _ | cpxAbs _ | cpyZp _ | cpyAbs _ | andZp _ | andZpx _ | andAbs _ | andAbsx _
  | andAbsy _ | andIndx _ | andIndy _ | oraZp _ | oraZpx _ | oraAbs _ | oraAbsx _ | oraAbsy _ | oraIndx _ | oraIndy _
  | eorZp _ | eorZpx _ | eorAbs _ | eorAbsx _ | eorAbsy _ | eorIndx _ | eorIndy _ | bitZp _ | bitAbs _ =>
    exact .readMem fun _ _ => ⟨rfl, rfl⟩
  | ldaZpi _ | cmpZpi _ | andZpi _ | oraZpi _ | eorZpi _ | bitZpx _ | bitAbsx _ =>
    exact .cmosOnly (.readMem fun _ _ => ⟨rfl, rfl⟩)
  | adcImm _ => exact .arithImm .adc
  | adcZp _ | adcZpx _ | adcAbs _ | adcAbsx _ | adcAbsy _ | adcIndx _ | adcIndy _ => exact .arithMem .adc
  | adcZpi _ => exact .cmosOnly (.arithMem .adc)
  | sbcImm _ => exact .arithImm .sbc
  | sbcZp _ | sbcZpx _ | sbcAbs _ | sbcAbsx _ | sbcAbsy _ | sbcIndx _ | sbcIndy _ => exact .arithMem .sbc
  | sbcZpi _ => exact .cmosOnly (.arithMem .sbc)
  | staZp _ | staZpx _ | staAbs _ | staAbsx _ | staAbsy _ | staIndx _ | staIndy _ | stxZp _ | stxZpy _ | stxAbs _
  | styZp _ | styZpx _ | styAbs _ => exact .writeMem
  | staZpi _ | stzZp _ | stzZpx _ | stzAbs _ | stzAbsx _ => exact .cmosOnly .writeMem
  | incZp _ | incZpx _ | incAbs _ | incAbsx _ | decZp _ | decZpx _ | decAbs _ | decAbsx _ | aslZp _ | aslZpx _ | aslAbs _
  | aslAbsx _ | lsrZp _ | lsrZpx _ | lsrAbs _ | lsrAbsx _ | rolZp _ | rolZpx _ | rolAbs _ | rolAbsx _ | rorZp _
  | rorZpx _ | rorAbs _ | rorAbsx _ => exact .rmwMem
  | trbZp _ | trbAbs _ | tsbZp _ | tsbAbs _ | rmb0 _ | rmb1 _ | rmb2 _ | rmb3 _ | rmb4 _ | rmb5 _ | rmb6 _ | rmb7 _
  | smb0 _ | smb1 _ | smb2 _ | smb3 _ | smb4 _ | smb5 _ | smb6 _ | smb7 _ => exact .cmosOnly .rmwMem
  | tax | tay | txa | tya | tsx | txs | inx | iny | dex | dey | aslAcc | lsrAcc | rolAcc | rorAcc | clc | cld | cli | clv
  | sec | sed | sei | nop | brk => exact .of_next rfl rfl
  | incAcc | decAcc => exact .cmosOnly (.of_next rfl rfl)
  | bpl _ | bmi _ | bvc _ | bvs _ | bcc _ | bcs _ | bne _ | beq _ =>
    exact .quiet (.bind .get fun _ => .relBranch _ _)
  | bra _ => exact .cmosOnly (.quiet (.bind .get fun _ => .relBranch _ _))
  | bbr0 _ _ | bbr1 _ _ | bbr2 _ _ | bbr3 _ _ | bbr4 _ _ | bbr5 _ _ | bbr6 _ _ | bbr7 _ _ | bbs0 _ _ | bbs1 _ _
  | bbs2 _ _ | bbs3 _ _ | bbs4 _ _ | bbs5 _ _ | bbs6 _ _ | bbs7 _ _ => exact .cmosOnly .bitBranch
  | jmpAbs a => exact .quiet (.bind (.fetchWord a) fun _ => .setPc _ _)
  | jmpInd a => exact .quiet (.bind (.indirectTarget a) fun _ => .setPc _ _)
  | jmpAix a => exact .cmosOnly (.quiet (.bind (.indexedIndirectTarget a) fun _ => .setPc _ _))
  | jsr a => exact .jsr a s
  | rts => exact .quiet (.bind .pop fun _ => .bind .pop fun _ => .setPc _ _)
  | rti =>
    exact .quiet (.bind .pop fun _ => .bind (.modified fun _ => ⟨rfl, rfl⟩) fun _ => .bind .pop fun _ =>
      .bind .pop fun _ => .setPc _ _)
  | pha | php => exact .pushByte
  | phx | phy => exact .cmosOnly .pushByte
  | pla | plp => exact .pullByte fun _ _ => ⟨rfl, rfl⟩
  | plx | ply => exact .cmosOnly (.pullByte fun _ _ => ⟨rfl, rfl⟩)

/-- Settles O59: memory is written at the bytes of the stored addresses alone. -/
theorem onlyStoredAddressesChangeMemory : Obligations.only_stored_addresses_change_memory := by
  unfold Obligations.only_stored_addresses_change_memory
  intro i s t h hs
  have hw : WritesIn (s.places (s.storeAddrs i)) s.mem t.mem := exec_stores i s hs t h
  refine ⟨fun hnil => hw.eq_of_forall_not ?_, fun ph hph => hw.read_other ?_, fun hc b hb => ?_⟩
  · rintro ph ⟨a, ha, -⟩
    rw [hnil] at ha
    cases ha
  · rintro ⟨a, ha, hp⟩
    exact hph a ha hp
  · have hcfg : t.cfg = s.cfg := (exec_sameControl h).1
    have hres : t.resolve b = s.resolve b := by
      unfold State.resolve
      rw [hcfg]
      exact hw.resolve_eq (fun ph ⟨a, ha, hp⟩ => hc a ha ph hp) b
    unfold State.peek
    rw [hres]
    cases hp : s.resolve b with
    | none => rfl
    | some ph => exact hw.read_other fun ⟨a, ha, hap⟩ => hb a ha (hap.trans hp.symm)

end Sys2Proof.Machine
end

section
/-! PROOFS. Loads, stores and register transfers (41_load_store_transfer.md): the shapes of the Read class (40_dispatch.md R180)
and what they come to as the whole next state. -/

namespace Sys2Proof.Machine

/-! ## The Read class (R201 to R203, R223 to R225, R241 to R244) -/

/-- What a Read instruction other than ADC and SBC does with its operand; none for every other instruction. BIT alone does less
with an immediate operand. -/
def readEffect (n : Mnemonic) (o : Operand) : Option (State → Byte → State) :=
  match n with
  | .lda => some State.loadA
  | .ldx => some State.loadX
  | .ldy => some State.loadY
  | .cmp => some State.compareA
  | .cpx => some State.compareX
  | .cpy => some State.compareY
  | .and => some State.andA
  | .ora => some State.orA
  | .eor => some State.eorA
  | .bit =>
    match o with
    | .imm _ => some State.bitImmA
    | .imp | .acc | .mem _ | .ind _ | .aix _ | .rel _ | .zprel _ _ => some State.bitA
  | _ => none

/-- A Read instruction has the immediate or the memory shape. -/
theorem exec_eq_readImm_or_readMem {i : Instr} {s : State} {f : State → Byte → State}
    (hf : readEffect i.mnemonic i.operand = some f) (hw : WellFormed s.cfg.model i = true) :
    (∃ v, i.operand = .imm v ∧ exec i s = readImm i.opcode v f s) ∨
      ∃ m, i.operand = .mem m ∧ exec i s = readMem i.opcode m f s := by
  cases i with
  | ldaImm _ | ldxImm _ | ldyImm _ | cmpImm _ | cpxImm _ | cpyImm _ | andImm _ | oraImm _ | eorImm _ =>
    cases hf
    exact .inl ⟨_, rfl, rfl⟩
  | bitImm _ =>
    cases hf
    exact .inl ⟨_, rfl, cmosOnly_of_wellFormed hw rfl _ _⟩
  | ldaZp _ | ldaZpx _ | ldaAbs _ | ldaAbsx _ | ldaAbsy _ | ldaIndx _ | ldaIndy _ | ldxZp _ | ldxZpy _ | ldxAbs _
  | ldxAbsy _ | ldyZp _ | ldyZpx _ | ldyAbs _ | ldyAbsx _ | cmpZp _ | cmpZpx _ | cmpAbs _ | cmpAbsx _ | cmpAbsy _
  | cmpIndx _ | cmpIndy _ | cpxZp _ | cpxAbs _ | cpyZp _ | cpyAbs _ | andZp _ | andZpx _ | andAbs _ | andAbsx _
  | andAbsy _ | andIndx _ | andIndy _ | oraZp _ | oraZpx _ | oraAbs _ | oraAbsx _ | oraAbsy _ | oraIndx _ | oraIndy _
  | eorZp _ | eorZpx _ | eorAbs _ | eorAbsx _ | eorAbsy _ | eorIndx _ | eorIndy _ | bitZp _ | bitAbs _ =>
    cases hf
    exact .inr ⟨_, rfl, rfl⟩
  | ldaZpi _ | cmpZpi _ | andZpi _ | oraZpi _ | eorZpi _ | bitZpx _ | bitAbsx _ =>
    cases hf
    exact .inr ⟨_, rfl, cmosOnly_of_wellFormed hw rfl _ _⟩
  | _ => cases hf

/-- A Read instruction applies its effect to the operand in the state past its loads, and is charged its cost (R180, R185). -/
theorem exec_readEffect_next {i : Instr} {s t : State} {f : State → Byte → State}
    (hf : readEffect i.mnemonic i.operand = some f) (hw : WellFormed s.cfg.model i = true)
    (hr : s.allReadable (s.dataReads i.operand))
    (ht : f ((s.counted (s.dataReads i.operand)).setPc (s.nextPc i)) (s.operandValue i.operand) = t) :
    exec i s = .next (t.addCycles (instrCost t.cfg i.opcode { cross := s.operandCross i.operand })) := by
  subst ht
  obtain ⟨v, ho, he⟩ | ⟨m, ho, he⟩ := exec_eq_readImm_or_readMem hf hw
  · rw [he, State.nextPc, ho]
    rw [ho] at hr
    exact readImm_next v f (hr s.pc List.mem_cons_self)
  · rw [he, s.nextPc_mem ho, ho]
    rw [ho] at hr
    exact readMem_next m f hr rfl

/-- Settles O10: the effect of each load is its register and SetNZ. -/
theorem loadsWriteRegisterAndNz : Obligations.loads_write_register_and_nz := by
  unfold Obligations.loads_write_register_and_nz
  intro i s hw hr v t
  exact ⟨fun h => exec_readEffect_next (f := State.loadA) (h ▸ rfl) hw hr rfl,
    fun h => exec_readEffect_next (f := State.loadX) (h ▸ rfl) hw hr rfl,
    fun h => exec_readEffect_next (f := State.loadY) (h ▸ rfl) hw hr rfl⟩

/-! ## The Write class and the transfers -/

/-- Settles O11: the Write shape, PC past the operand its mode has. -/
theorem storesWriteOneByteAndNoFlag : Obligations.stores_write_one_byte_and_no_flag := by
  unfold Obligations.stores_write_one_byte_and_no_flag
  intro i s m v ph h hm hw hr ⟨hs, hp⟩ t
  obtain ⟨f, hf, rfl⟩ := storedByte_of_mem h
  rw [exec_eq_writeMem hf hm hw, writeMem_next m _ hr hs hp, ← s.nextPc_mem hm]
  rfl

/-- Settles O13: each is implied, so PC stays past its opcode. -/
theorem transfersCopyARegister : Obligations.transfers_copy_a_register := by
  unfold Obligations.transfers_copy_a_register
  intro s
  have hpast (i : Instr) (h : i.operand.bytes.length = 0) := State.past_no_operand h s [] {}
  rw [hpast .tax rfl, hpast .tay rfl, hpast .txa rfl, hpast .tya rfl, hpast .tsx rfl, hpast .txs rfl]
  exact ⟨rfl, rfl, rfl, rfl, rfl, rfl⟩

end Sys2Proof.Machine
end

section
/-! PROOFS. Accesses out of range (60_exceptions.md R312, R315; 40_dispatch.md R198): the loads an instruction makes, in order,
and the fault of the first one that does not resolve; and the stores of a Write or push instruction and of JSR. -/

namespace Sys2Proof.Machine

/-! ## The first load that does not resolve -/

/-- From `s`, the addresses of `l` are loaded in order before anything else can end the instruction: the first of them that
does not resolve is the fault, after the counts of those before it. -/
def LoadsFirst (l : List Addr) (s : State) (r : StepResult) : Prop :=
  ∀ (before after : List Addr) (b : Addr), l = before ++ b :: after → s.allReadable before → s.readable b = false →
    r = .next (takeFault (.outOfRange b .load) (s.counted before))

section LoadsFirst

variable {op : Byte} {l : List Addr} {s : State} {r : StepResult}

theorem LoadsFirst.nil : LoadsFirst [] s r := fun _ _ _ h =>
  absurd h.symm (List.append_ne_nil_of_right_ne_nil _ (List.cons_ne_nil _ _))

/-- One address, and the others from the state in which it has been counted, whatever PC is there. -/
theorem LoadsFirst.cons {a pc : Addr}
    (hfault : s.readable a = false → r = .next (takeFault (.outOfRange a .load) s))
    (h : s.readable a = true → LoadsFirst l ((s.counted [a]).setPc pc) r) : LoadsFirst (a :: l) s r := by
  intro before after b hl hr hb
  cases before with
  | nil => cases hl; exact hfault hb
  | cons c before =>
    cases hl
    obtain ⟨ha, hr⟩ := State.allReadable_cons.1 hr
    exact h ha before after b rfl hr hb

/-- The first address does not resolve. -/
theorem LoadsFirst.head {a : Addr} (h : LoadsFirst (a :: l) s r) (ha : s.readable a = false) :
    r = .next (takeFault (.outOfRange a .load) s) :=
  h [] l a rfl (fun _ h => nomatch h) ha

theorem LoadsFirst.cmosOnly {i : Instr} {meaning : State → StepResult} (hw : WellFormed s.cfg.model i = true)
    (hn : WellFormed .nmos6502 i = false) (h : LoadsFirst l s (meaning s)) : LoadsFirst l s (cmosOnly op meaning s) := by
  rw [cmosOnly_of_wellFormed hw hn]
  exact h

/-! ## Pieces of an instruction -/

theorem LoadsFirst.get {f : State → Run Timing} (h : LoadsFirst l s (runInstr op (f s) s)) :
    LoadsFirst l s (runInstr op ((get : Run State) >>= f) s) := h

theorem LoadsFirst.memRead {a : Addr} {f : Byte → Run Timing}
    (h : LoadsFirst l (s.counted [a]) (runInstr op (f (s.peek a)) (s.counted [a]))) :
    LoadsFirst (a :: l) s (runInstr op (memRead a >>= f) s) :=
  .cons (pc := s.pc) (fun ha => runInstr_error (Run.bind_error (memRead_error ha))) fun ha => by
    rw [runInstr_bind_ok (memRead_ok ha)]
    exact h

theorem LoadsFirst.fetchByte {f : Byte → Run Timing}
    (h : LoadsFirst l ((s.counted [s.pc]).setPc (s.pc + 1))
      (runInstr op (f (s.peek s.pc)) ((s.counted [s.pc]).setPc (s.pc + 1)))) :
    LoadsFirst (s.pc :: l) s (runInstr op (fetchByte >>= f) s) :=
  .cons (fun ha => runInstr_error (Run.bind_error (fetchByte_error ha))) fun ha => by
    rw [runInstr_bind_ok (fetchByte_ok ha)]
    exact h

theorem LoadsFirst.fetchOperand {b : Byte} {f : Byte → Run Timing}
    (h : LoadsFirst l ((s.counted [s.pc]).setPc (s.pc + 1))
      (runInstr op (f b) ((s.counted [s.pc]).setPc (s.pc + 1)))) :
    LoadsFirst (s.pc :: l) s (runInstr op (fetchOperand b >>= f) s) := by
  rw [Machine.fetchOperand, bind_assoc]
  exact .fetchByte h

theorem LoadsFirst.fetchWord {a : Addr} {f : Addr → Run Timing}
    (h : LoadsFirst l ((s.counted [s.pc, s.pc + 1]).setPc (s.pc + 2))
      (runInstr op (f a) ((s.counted [s.pc, s.pc + 1]).setPc (s.pc + 2)))) :
    LoadsFirst (s.pc :: (s.pc + 1) :: l) s (runInstr op (fetchWord a >>= f) s) := by
  have hpc : s.pc + 2 = s.pc + 1 + 1 := (BitVec.add_assoc s.pc 1 1).symm
  rw [hpc] at h
  rw [Machine.fetchWord, bind_assoc]
  refine .fetchByte ?_
  rw [bind_assoc]
  exact .fetchByte (s := (s.counted [s.pc]).setPc (s.pc + 1)) h

theorem LoadsFirst.pop {f : Byte → Run Timing}
    (h : LoadsFirst l ((s.counted [stackAddr (s.sp + 1)]).setSp (s.sp + 1))
      (runInstr op (f (s.peek (stackAddr (s.sp + 1)))) ((s.counted [stackAddr (s.sp + 1)]).setSp (s.sp + 1)))) :
    LoadsFirst (stackAddr (s.sp + 1) :: l) s (runInstr op (pop >>= f) s) :=
  .memRead (s := s.setSp (s.sp + 1)) h

/-- Operand bytes, then pointer bytes (R198). -/
theorem LoadsFirst.resolveEa {m : MemMode} {f : Ea → Run Timing}
    (h : LoadsFirst l ((s.counted (s.modeReads m)).setPc (s.pc + BitVec.ofNat 16 (modeBytes m)))
      (runInstr op (f (s.ea m)) ((s.counted (s.modeReads m)).setPc (s.pc + BitVec.ofNat 16 (modeBytes m))))) :
    LoadsFirst (s.operandReads (.mem m) ++ l) s (runInstr op (resolveEa m >>= f) s) := by
  unfold Machine.resolveEa
  cases m with
  | zp z | zpx z | zpy z =>
    simp only [bind_assoc]
    exact .fetchOperand h
  | abs a | absx a | absy a =>
    simp only [bind_assoc]
    exact .fetchWord h
  | indx z =>
    simp only [bind_assoc]
    exact .fetchOperand (.get (.memRead (.memRead h)))
  | indy z | zpi z =>
    simp only [bind_assoc]
    exact .fetchOperand (.memRead (.memRead h))

/-! ## Shapes -/

theorem LoadsFirst.readImm {v : Byte} {f : State → Byte → State} : LoadsFirst [s.pc] s (readImm op v f s) :=
  .fetchOperand .nil

theorem LoadsFirst.arithImm {v : Byte} {f : Byte → Run Unit} : LoadsFirst [s.pc] s (arithImm op v f s) :=
  .get (.fetchOperand .nil)

/-- The data load of the Read and RMW classes comes after the resolver (R180). -/
theorem LoadsFirst.readMem {m : MemMode} {f : State → Byte → State} :
    LoadsFirst (s.operandReads (.mem m) ++ [(s.ea m).addr]) s (readMem op m f s) :=
  .resolveEa (.memRead .nil)

theorem LoadsFirst.arithMem {m : MemMode} {f : Byte → Run Unit} :
    LoadsFirst (s.operandReads (.mem m) ++ [(s.ea m).addr]) s (arithMem op m f s) :=
  .get (.resolveEa (.memRead .nil))

theorem LoadsFirst.rmwMem {m : MemMode} {f : State → Byte → Byte × Byte} :
    LoadsFirst (s.operandReads (.mem m) ++ [(s.ea m).addr]) s (rmwMem op m f s) :=
  .resolveEa (.memRead .nil)

theorem LoadsFirst.writeMem {m : MemMode} {f : State → Byte} :
    LoadsFirst (s.operandReads (.mem m) ++ []) s (writeMem op m f s) :=
  .resolveEa .nil

theorem LoadsFirst.indirectTarget {a : Addr} {f : Addr → Run Timing} :
    LoadsFirst [s.pc, s.pc + 1, a, indirectHigh s.cfg.model a] s (runInstr op (indirectTarget a >>= f) s) := by
  simp only [Machine.indirectTarget, bind_assoc]
  exact .fetchWord (.get (.memRead (.memRead .nil)))

theorem LoadsFirst.indexedIndirectTarget {a : Addr} {f : Addr → Run Timing} :
    LoadsFirst [s.pc, s.pc + 1, a + indexOf s.x, a + indexOf s.x + 1] s
      (runInstr op (indexedIndirectTarget a >>= f) s) := by
  simp only [Machine.indexedIndirectTarget, bind_assoc]
  exact .fetchWord (.get (.memRead (.memRead .nil)))

/-- A taken branch fetches its offset (R177). -/
theorem LoadsFirst.relBranch_taken {r : Byte} : LoadsFirst [s.pc] s (runInstr op (relBranch true r) s) :=
  .fetchOperand .nil

/-- BBRb and BBSb load the zero-page byte before the decision (R178). -/
theorem LoadsFirst.bitBranch {b : Fin 8} {want : Bool} {z r : Byte} :
    LoadsFirst [s.pc, zeroPage z] s (bitBranch op b want z r s) :=
  .fetchOperand (.memRead .nil)

theorem LoadsFirst.bitBranch_taken {b : Fin 8} {want : Bool} {z r : Byte}
    (h : (s.peek (zeroPage z)).getLsbD b.val = want) :
    LoadsFirst [s.pc, zeroPage z, s.pc + 1] s (Machine.bitBranch op b want z r s) := by
  refine .fetchOperand (.memRead ?_)
  rw [State.peek_setPc, State.peek_counted, h, beq_self_eq_true]
  exact .relBranch_taken (s := ((s.counted [s.pc]).setPc (s.pc + 1)).counted [zeroPage z])

/-- Two pulls, and what comes after them. -/
theorem LoadsFirst.pop_pop {f : Byte → Byte → Run Timing} :
    LoadsFirst [stackAddr (s.sp + 1), stackAddr (s.sp + 2)] s
      (runInstr op (Machine.pop >>= fun v => Machine.pop >>= f v) s) := by
  have hsp : s.sp + 2 = s.sp + 1 + 1 := (BitVec.add_assoc s.sp 1 1).symm
  rw [hsp]
  exact .pop (.pop (s := (s.counted [stackAddr (s.sp + 1)]).setSp (s.sp + 1)) .nil)

/-- The return address (R274). -/
theorem LoadsFirst.execRts (s : State) :
    LoadsFirst [stackAddr (s.sp + 1), stackAddr (s.sp + 2)] s (execRts s) :=
  .pop_pop

/-- All of P, which decides no address, and then the return address (R275). -/
theorem LoadsFirst.execRti (s : State) :
    LoadsFirst [stackAddr (s.sp + 1), stackAddr (s.sp + 2), stackAddr (s.sp + 3)] s (execRti s) := by
  have hlow : s.sp + 2 = s.sp + 1 + 1 := (BitVec.add_assoc s.sp 1 1).symm
  have hhigh : s.sp + 3 = s.sp + 1 + 2 := (BitVec.add_assoc s.sp 1 2).symm
  rw [hlow, hhigh]
  exact .pop (.pop_pop
    (s := ((s.counted [stackAddr (s.sp + 1)]).setSp (s.sp + 1)).setP (s.peek (stackAddr (s.sp + 1)))))

end LoadsFirst

/-! ## Every instruction -/

/-- What an instruction other than a branch loads after its operand and pointer bytes, in order (R180, R183): the byte at its
effective address, or the stack bytes it pulls. -/
def State.loadsAfterOperand (s : State) (n : Mnemonic) (o : Operand) : List Addr :=
  match n with
  | .lda | .ldx | .ldy | .adc | .sbc | .cmp | .cpx | .cpy | .and | .ora | .eor | .bit | .inc | .dec | .asl | .lsr | .rol
  | .ror | .trb | .tsb | .rmb _ | .smb _ =>
    match o with
    | .mem m => [(s.ea m).addr]
    | .imp | .acc | .imm _ | .ind _ | .aix _ | .rel _ | .zprel _ _ => []
  | .pla | .plp | .plx | .ply => [stackAddr (s.sp + 1)]
  | .rts => [stackAddr (s.sp + 1), stackAddr (s.sp + 2)]
  | .rti => [stackAddr (s.sp + 1), stackAddr (s.sp + 2), stackAddr (s.sp + 3)]
  | .sta | .stx | .sty | .stz | .tax | .tay | .txa | .tya | .tsx | .txs | .inx | .iny | .dex | .dey | .bpl | .bmi | .bvc
  | .bvs | .bcc | .bcs | .bne | .beq | .bra | .bbr _ | .bbs _ | .jmp | .jsr | .brk | .nop | .pha | .php | .phx | .phy
  | .clc | .cld | .cli | .clv | .sec | .sed | .sei => []

/-- Every instruction but the branches of one operand byte loads its operand and pointer bytes and then what comes after. -/
theorem exec_loadsFirst (i : Instr) (s : State) (hw : WellFormed s.cfg.model i = true)
    (hrel : ∀ r : Byte, i.operand ≠ .rel r) :
    LoadsFirst (s.operandReads i.operand ++ s.loadsAfterOperand i.mnemonic i.operand) s (exec i s) := by
  cases i with
  | ldaImm _ | ldxImm _ | ldyImm _ | cmpImm _ | cpxImm _ | cpyImm _ | andImm _ | oraImm _ | eorImm _ =>
    exact .readImm
  | adcImm _ | sbcImm _ => exact .arithImm
  | bitImm _ => exact .cmosOnly hw rfl .readImm
  | ldaZp _ | ldaZpx _ | ldaAbs _ | ldaAbsx _ | ldaAbsy _ | ldaIndx _ | ldaIndy _ | ldxZp _ | ldxZpy _ | ldxAbs _
  | ldxAbsy _ | ldyZp _ | ldyZpx _ | ldyAbs _ | ldyAbsx _ | cmpZp _ | cmpZpx _ | cmpAbs _ | cmpAbsx _ | cmpAbsy _
  | cmpIndx _ | cmpIndy _ | cpxZp _ | cpxAbs _ | cpyZp _ | cpyAbs _ | andZp _ | andZpx _ | andAbs _ | andAbsx _
  | andAbsy _ | andIndx _ | andIndy _ | oraZp _ | oraZpx _ | oraAbs _ | oraAbsx _ | oraAbsy _ | oraIndx _ | oraIndy _
  | eorZp _ | eorZpx _ | eorAbs _ | eorAbsx _ | eorAbsy _ | eorIndx _ | eorIndy _ | bitZp _ | bitAbs _ => exact .readMem
  | incZp _ | incZpx _ | incAbs _ | incAbsx _ | decZp _ | decZpx _ | decAbs _ | decAbsx _ | aslZp _ | aslZpx _ | aslAbs _
  | aslAbsx _ | lsrZp _ | lsrZpx _ | lsrAbs _ | lsrAbsx _ | rolZp _ | rolZpx _ | rolAbs _ | rolAbsx _ | rorZp _
  | rorZpx _ | rorAbs _ | rorAbsx _ => exact .rmwMem
  | adcZp _ | adcZpx _ | adcAbs _ | adcAbsx _ | adcAbsy _ | adcIndx _ | adcIndy _ | sbcZp _ | sbcZpx _ | sbcAbs _
  | sbcAbsx _ | sbcAbsy _ | sbcIndx _ | sbcIndy _ => exact .arithMem
  | adcZpi _ | sbcZpi _ => exact .cmosOnly hw rfl .arithMem
  | ldaZpi _ | cmpZpi _ | andZpi _ | oraZpi _ | eorZpi _ | bitZpx _ | bitAbsx _ =>
    exact .cmosOnly hw rfl .readMem
  | trbZp _ | trbAbs _ | tsbZp _ | tsbAbs _ | rmb0 _ | rmb1 _ | rmb2 _ | rmb3 _ | rmb4 _ | rmb5 _ | rmb6 _ | rmb7 _
  | smb0 _ | smb1 _ | smb2 _ | smb3 _ | smb4 _ | smb5 _ | smb6 _ | smb7 _ => exact .cmosOnly hw rfl .rmwMem
  | staZp _ | staZpx _ | staAbs _ | staAbsx _ | staAbsy _ | staIndx _ | staIndy _ | stxZp _ | stxZpy _ | stxAbs _
  | styZp _ | styZpx _ | styAbs _ => exact .writeMem
  | staZpi _ | stzZp _ | stzZpx _ | stzAbs _ | stzAbsx _ => exact .cmosOnly hw rfl .writeMem
  | jmpAbs _ | jsr _ => exact .fetchWord .nil
  | jmpInd _ => exact .indirectTarget
  | jmpAix _ => exact .cmosOnly hw rfl .indexedIndirectTarget
  | bbr0 _ _ | bbr1 _ _ | bbr2 _ _ | bbr3 _ _ | bbr4 _ _ | bbr5 _ _ | bbr6 _ _ | bbr7 _ _ | bbs0 _ _ | bbs1 _ _
  | bbs2 _ _ | bbs3 _ _ | bbs4 _ _ | bbs5 _ _ | bbs6 _ _ | bbs7 _ _ => exact .cmosOnly hw rfl .bitBranch
  | bpl r | bmi r | bvc r | bvs r | bcc r | bcs r | bne r | beq r | bra r => exact absurd rfl (hrel r)
  | pla | plp => exact .pop .nil
  | plx | ply => exact .cmosOnly hw rfl (.pop .nil)
  | rts => exact .execRts s
  | rti => exact .execRti s
  | _ => exact .nil

theorem State.loadsAfterOperand_mem {s : State} {n : Mnemonic} {m : MemMode}
    (h : n ∈ [.lda, .ldx, .ldy, .adc, .sbc, .cmp, .cpx, .cpy, .and, .ora, .eor, .bit, .inc, .dec, .asl, .lsr, .rol, .ror,
      .trb, .tsb] ∨ ∃ b, n = .rmb b ∨ n = .smb b) : s.loadsAfterOperand n (.mem m) = [(s.ea m).addr] := by
  obtain h | ⟨b, rfl | rfl⟩ := h
  · fin_cases h <;> rfl
  · rfl
  · rfl

/-- Every instruction that pulls loads the byte above SP first (R183). -/
theorem State.loadsAfterOperand_pull {i : Instr} (s : State) (h : i ∈ [Instr.pla, .plp, .plx, .ply, .rts, .rti]) :
    i.operand = .imp ∧ ∃ l, s.loadsAfterOperand i.mnemonic .imp = stackAddr (s.sp + 1) :: l := by
  fin_cases h <;> exact ⟨rfl, _, rfl⟩

/-- An operand or pointer byte does not resolve, of any instruction but the branches of one operand byte (R198, R315). -/
theorem exec_operand_out_of_range {i : Instr} {s : State} {before after : List Addr} {b : Addr}
    (hw : WellFormed s.cfg.model i = true) (hrel : ∀ r : Byte, i.operand ≠ .rel r)
    (hl : s.operandReads i.operand = before ++ b :: after) (hr : s.allReadable before) (hb : s.readable b = false) :
    exec i s = .next (takeFault (.outOfRange b .load) (s.counted before)) := by
  refine exec_loadsFirst i s hw hrel before (after ++ s.loadsAfterOperand i.mnemonic i.operand) b ?_ hr hb
  rw [hl, List.append_assoc, List.cons_append]

/-- The first load after the operand does not resolve (R312, R315). -/
theorem exec_load_out_of_range {i : Instr} {s : State} {o : Operand} {l : List Addr} {b : Addr}
    (hw : WellFormed s.cfg.model i = true) (ho : i.operand = o) (hrel : ∀ r : Byte, o ≠ .rel r)
    (hl : s.loadsAfterOperand i.mnemonic o = b :: l) (hr : s.allReadable (s.operandReads o)) (hb : s.readable b = false) :
    exec i s = .next (takeFault (.outOfRange b .load) (s.counted (s.operandReads o))) := by
  subst ho
  exact exec_loadsFirst i s hw hrel (s.operandReads i.operand) l b (congrArg _ hl) hr hb

/-! ## Taken branches (R177, R178, R270, R271) -/

/-- When a branch of one operand byte is taken, of P; none for every other instruction (R261 to R269). -/
def branchCondition : Mnemonic → Option (Byte → Bool)
  | .bpl => some fun p => !flag p .n
  | .bmi => some fun p => flag p .n
  | .bvc => some fun p => !flag p .v
  | .bvs => some fun p => flag p .v
  | .bcc => some fun p => !flag p .c
  | .bcs => some fun p => flag p .c
  | .bne => some fun p => !flag p .z
  | .beq => some fun p => flag p .z
  | .bra => some fun _ => true
  | _ => none

theorem branchCondition_of_mem {p : Byte} {n : Mnemonic} {taken : Bool}
    (h : (n, taken) ∈ [(Mnemonic.bpl, !flag p .n), (.bmi, flag p .n), (.bvc, !flag p .v), (.bvs, flag p .v),
      (.bcc, !flag p .c), (.bcs, flag p .c), (.bne, !flag p .z), (.beq, flag p .z), (.bra, true)]) :
    ∃ c, branchCondition n = some c ∧ c p = taken := by
  simp only [List.mem_cons, List.not_mem_nil, or_false, Prod.mk.injEq] at h
  obtain ⟨rfl, rfl⟩ | ⟨rfl, rfl⟩ | ⟨rfl, rfl⟩ | ⟨rfl, rfl⟩ | ⟨rfl, rfl⟩ | ⟨rfl, rfl⟩ | ⟨rfl, rfl⟩ | ⟨rfl, rfl⟩ |
    ⟨rfl, rfl⟩ := h <;>
    exact ⟨_, rfl, rfl⟩

theorem exec_eq_branch {i : Instr} {s : State} {c : Byte → Bool} (hc : branchCondition i.mnemonic = some c)
    (hw : WellFormed s.cfg.model i = true) : ∃ r, i.operand = .rel r ∧ exec i s = branch i.opcode c r s := by
  cases i with
  | bpl r | bmi r | bvc r | bvs r | bcc r | bcs r | bne r | beq r => cases hc; exact ⟨r, rfl, rfl⟩
  | bra r => cases hc; exact ⟨r, rfl, cmosOnly_of_wellFormed hw rfl _ _⟩
  | _ => cases hc

theorem exec_branch_offset_out_of_range {i : Instr} {s : State} {c : Byte → Bool}
    (hc : branchCondition i.mnemonic = some c) (htaken : c s.p = true) (hw : WellFormed s.cfg.model i = true)
    (hr : s.readable s.pc = false) : exec i s = .next (takeFault (.outOfRange s.pc .load) s) := by
  obtain ⟨r, -, he⟩ := exec_eq_branch hc hw
  have hloads : LoadsFirst [s.pc] s (runInstr i.opcode (relBranch (c s.p) r) s) := by
    rw [htaken]
    exact .relBranch_taken
  exact he.trans (hloads.head hr)

/-- The bit a BBRb or BBSb tests and the value it branches on; none for every other instruction. -/
def bitCondition : Mnemonic → Option (Fin 8 × Bool)
  | .bbr b => some (b, false)
  | .bbs b => some (b, true)
  | _ => none

theorem exec_eq_bitBranch {i : Instr} {s : State} {b : Fin 8} {want : Bool} {z r : Byte}
    (hb : bitCondition i.mnemonic = some (b, want)) (hz : i.operand = .zprel z r)
    (hw : WellFormed s.cfg.model i = true) : exec i s = bitBranch i.opcode b want z r s := by
  cases i with
  | bbr0 _ _ | bbr1 _ _ | bbr2 _ _ | bbr3 _ _ | bbr4 _ _ | bbr5 _ _ | bbr6 _ _ | bbr7 _ _ | bbs0 _ _ | bbs1 _ _
  | bbs2 _ _ | bbs3 _ _ | bbs4 _ _ | bbs5 _ _ | bbs6 _ _ | bbs7 _ _ =>
    cases hb
    cases hz
    exact cmosOnly_of_wellFormed hw rfl _ _
  | _ => cases hz

theorem exec_bitBranch_offset_out_of_range {i : Instr} {s : State} {b : Fin 8} {want : Bool} {z r : Byte}
    (hb : bitCondition i.mnemonic = some (b, want)) (hz : i.operand = .zprel z r)
    (hw : WellFormed s.cfg.model i = true) (htaken : (s.peek (w16 0 z)).getLsbD b.val = want)
    (hr : s.allReadable [s.pc, w16 0 z]) (hoff : s.readable (s.pc + 1) = false) :
    exec i s = .next (takeFault (.outOfRange (s.pc + 1) .load) (s.counted [s.pc, w16 0 z])) :=
  (exec_eq_bitBranch hb hz hw).trans (LoadsFirst.bitBranch_taken htaken _ [] _ rfl hr hoff)

/-! ## Stores out of range -/

theorem State.resolve_of_not_readable {s : State} {a : Addr} (h : s.readable a = false) : s.resolve a = none := by
  simpa [State.readable] using h

theorem State.stored_out_of_range {s : State} {a : Addr} (v : Byte) (hs : s.sinkAt a = none) (hr : s.readable a = false) :
    s.stored a v = (some (.outOfRange a .store), s) := by
  rw [State.stored, hs]
  dsimp only
  rw [State.resolve_of_not_readable hr]

theorem storedByte_of_mnemonic {n : Mnemonic} (h : n ∈ [.sta, .stx, .sty, .stz]) : ∃ f, storedByte n = some f := by
  fin_cases h <;> exact ⟨_, rfl⟩

theorem writeMem_out_of_range {op : Byte} {m : MemMode} {f : State → Byte} {s : State} (hr : s.allReadable (s.modeReads m))
    (hs : s.sinkAt (s.ea m).addr = none) (hea : s.readable (s.ea m).addr = false) :
    writeMem op m f s = .next (takeFault (.outOfRange (s.ea m).addr .store) (s.counted (s.modeReads m))) := by
  have hstore (pc : Addr) (v : Byte) := memWrite_error (s := (s.counted (s.modeReads m)).setPc pc) v hs
    (State.resolve_of_not_readable hea)
  rw [writeMem, runInstr_bind_ok (resolveEa_ok m hr), runInstr_get_bind, runInstr_error (Run.bind_error (hstore _ _))]
  rfl

theorem pushByte_out_of_range {op : Byte} {f : State → Byte} {s : State} (hs : s.sinkAt (stackAddr s.sp) = none)
    (hr : s.readable (stackAddr s.sp) = false) :
    pushByte op f s = .next (takeFault (.outOfRange (stackAddr s.sp) .store) s) := by
  rw [pushByte, runInstr_get_bind]
  exact runInstr_error (Run.bind_error (push_of_memWrite_error (memWrite_error _ hs (State.resolve_of_not_readable hr))))

theorem exec_push_out_of_range {i : Instr} {s : State} (hi : i ∈ [Instr.pha, .php, .phx, .phy])
    (hw : WellFormed s.cfg.model i = true) (hs : s.sinkAt (stackAddr s.sp) = none)
    (hr : s.readable (stackAddr s.sp) = false) :
    exec i s = .next (takeFault (.outOfRange (stackAddr s.sp) .store) s) := by
  have hpushed : i ∈ [(Instr.pha, s.a), (.php, s.p ||| s.cfg.phpOrMask), (.phx, s.x), (.phy, s.y)].map Prod.fst := hi
  obtain ⟨⟨_, v⟩, hv, rfl⟩ := List.mem_map.1 hpushed
  obtain ⟨-, f, he, -⟩ := exec_eq_pushByte hv hw
  exact he.trans (pushByte_out_of_range hs hr)

theorem execJsr_high_out_of_range (a : Addr) {s : State} (hr : s.allReadable [s.pc, s.pc + 1])
    (hs : s.sinkAt (stackAddr s.sp) = none) (hb : s.readable (stackAddr s.sp) = false) :
    exec (.jsr a) s = .next (takeFault (.outOfRange (stackAddr s.sp) .store) (s.counted [s.pc, s.pc + 1])) := by
  have hhigh : s.jsrHigh = (some (.outOfRange (stackAddr s.sp) .store), s.counted [s.pc, s.pc + 1]) :=
    State.stored_out_of_range _ hs hb
  rw [execJsr_high_fault a hr (congrArg Prod.fst hhigh), hhigh]

/-- The first push leaves the next stack address where it was, so the second is out of range there (R273). -/
theorem execJsr_low_out_of_range (a : Addr) {s : State} {ph : Phys} (hr : s.allReadable [s.pc, s.pc + 1])
    (hp : s.storesTo (stackAddr s.sp) ph) (hs : s.sinkAt (stackAddr (s.sp - 1)) = none)
    (hb : s.readable (stackAddr (s.sp - 1)) = false) :
    exec (.jsr a) s = .next (takeFault (.outOfRange (stackAddr (s.sp - 1)) .store)
      ((s.counted [s.pc, s.pc + 1]).storeAt ph (hi8 (s.pc + 1)))) := by
  have hhigh : s.jsrHigh = (none, (s.counted [s.pc, s.pc + 1]).storeAt ph (hi8 (s.pc + 1))) :=
    State.stored_backend (s := s.counted [s.pc, s.pc + 1]) _ hp.1 hp.2
  have hb' : ((s.counted [s.pc, s.pc + 1]).storeAt ph (hi8 (s.pc + 1))).readable (stackAddr (s.sp - 1)) = false :=
    (congrArg Option.isSome (resolve_stack_storeAt (s := s.counted [s.pc, s.pc + 1]) (s.sp - 1) hp.2)).trans hb
  have hlow : s.jsrLow = (some (.outOfRange (stackAddr (s.sp - 1)) .store), s.jsrHigh.2) := by
    rw [State.jsrLow, hhigh]
    exact State.stored_out_of_range _ hs hb'
  rw [execJsr_low_fault a hr (congrArg Prod.fst hhigh) (congrArg Prod.fst hlow), hlow, hhigh]

/-- Settles O9: loads by the order in which an instruction makes them, stores by the shape of the instruction. -/
theorem accessOutOfRangeTakesItsFault : Obligations.access_out_of_range_takes_its_fault := by
  unfold Obligations.access_out_of_range_takes_its_fault
  refine ⟨fun i s before after b hw hrel => exec_operand_out_of_range hw hrel, ?_, ?_, ?_, ?_, ?_⟩
  · intro i s m hm hw hr hea
    refine ⟨fun hn hs => ?_, fun hn => ?_⟩
    · obtain ⟨f, hf⟩ := storedByte_of_mnemonic hn
      rw [exec_eq_writeMem hf hm hw]
      exact writeMem_out_of_range hr hs hea
    · exact exec_load_out_of_range hw hm nofun (State.loadsAfterOperand_mem hn) hr hea
  · intro i s hn hw hr
    obtain ⟨c, hc, htaken⟩ := branchCondition_of_mem hn
    exact exec_branch_offset_out_of_range hc htaken hw hr
  · rintro i s b z r hz hw hr hoff (⟨hn, hbit⟩ | ⟨hn, hbit⟩)
    · exact exec_bitBranch_offset_out_of_range (hn ▸ rfl) hz hw hbit hr hoff
    · exact exec_bitBranch_offset_out_of_range (hn ▸ rfl) hz hw hbit hr hoff
  · intro i s hw
    refine ⟨fun hi hr => ?_, fun hi hs hr => ?_, ?_⟩
    · obtain ⟨ho, l, hl⟩ := s.loadsAfterOperand_pull hi
      exact exec_load_out_of_range hw ho nofun hl nofun hr
    · exact exec_push_out_of_range hi hw hs hr
    · rintro a rfl hr hs hb
      exact execJsr_high_out_of_range a hr hs hb
  · intro s pull
    refine ⟨fun i hi h1 h2 => ?_, ?_, ?_⟩
    · simp only [List.mem_cons, List.not_mem_nil, or_false] at hi
      obtain rfl | rfl := hi
      · exact LoadsFirst.execRts s [pull 1] [] _ rfl (List.forall_mem_singleton.2 h1) h2
      · exact LoadsFirst.execRti s [pull 1] [pull 3] _ rfl (List.forall_mem_singleton.2 h1) h2
    · exact fun hr h3 => LoadsFirst.execRti s _ [] _ rfl hr h3
    · exact fun a ph hr hp hs hb => execJsr_low_out_of_range a hr hp hs hb

end Sys2Proof.Machine
end

section
/-! PROOFS. Arithmetic (42_arithmetic.md R221 to R231): ADC and SBC as one operation on the operand, the flags of a comparison
(R194), and the increments and decrements of memory and registers, each with the whole next state. -/

namespace Sys2Proof.Machine

/-! ## ADC and SBC by shape (R180, R188) -/

/-- The operation of ADC and SBC on their operand; none for every other instruction. -/
def arithOperation : Mnemonic → Option (Byte → Run Unit)
  | .adc => some adc
  | .sbc => some sbc
  | _ => none

theorem exec_eq_arithImm_or_arithMem {i : Instr} {s : State} {f : Byte → Run Unit}
    (hf : arithOperation i.mnemonic = some f) (hw : WellFormed s.cfg.model i = true) :
    (∃ v, i.operand = .imm v ∧ exec i s = arithImm i.opcode v f s) ∨
      ∃ m, i.operand = .mem m ∧ exec i s = arithMem i.opcode m f s := by
  cases i with
  | adcImm _ | sbcImm _ =>
    cases hf
    exact .inl ⟨_, rfl, rfl⟩
  | adcZp _ | adcZpx _ | adcAbs _ | adcAbsx _ | adcAbsy _ | adcIndx _ | adcIndy _ | sbcZp _ | sbcZpx _ | sbcAbs _
  | sbcAbsx _ | sbcAbsy _ | sbcIndx _ | sbcIndy _ =>
    cases hf
    exact .inr ⟨_, rfl, rfl⟩
  | adcZpi _ | sbcZpi _ =>
    cases hf
    exact .inr ⟨_, rfl, cmosOnly_of_wellFormed hw rfl _ _⟩
  | _ => cases hf

theorem runInstr_congr {op : Byte} {x y : Run Timing} {s t : State} (h : x s = y t) :
    runInstr op x s = runInstr op y t := by
  unfold runInstr
  rw [h]

/-- Once the operand is loaded, ADC and SBC are their operation on it, and the cost is by the D before it. -/
theorem exec_arith {i : Instr} {s : State} {f : Byte → Run Unit} (hf : arithOperation i.mnemonic = some f)
    (hw : WellFormed s.cfg.model i = true) (hr : s.allReadable (s.dataReads i.operand)) :
    exec i s =
      runInstr i.opcode
        (f (s.operandValue i.operand) >>= fun _ =>
          pure { cross := s.operandCross i.operand, decimal := flag s.p .d })
        ((s.counted (s.dataReads i.operand)).setPc (s.nextPc i)) := by
  obtain ⟨v, ho, he⟩ | ⟨m, ho, he⟩ := exec_eq_arithImm_or_arithMem hf hw
  · rw [he, State.nextPc, ho]
    rw [ho] at hr
    exact runInstr_congr (Run.bind_ok (fetchOperand_ok v (hr s.pc List.mem_cons_self)))
  · rw [he, s.nextPc_mem ho, ho]
    rw [ho] at hr
    exact runInstr_congr (resolveEa_read_ok m _ hr)

/-- ADC or SBC whose operation completes. -/
theorem exec_arith_next {i : Instr} {s t : State} {f : Byte → Run Unit} (hf : arithOperation i.mnemonic = some f)
    (hw : WellFormed s.cfg.model i = true) (hr : s.allReadable (s.dataReads i.operand))
    (ht : f (s.operandValue i.operand) ((s.counted (s.dataReads i.operand)).setPc (s.nextPc i)) = .ok () t) :
    exec i s = .next (t.addCycles
      (instrCost t.cfg i.opcode { cross := s.operandCross i.operand, decimal := flag s.p .d })) := by
  rw [exec_arith hf hw hr, runInstr_bind_ok ht]
  rfl

/-! ## Binary mode (R189, R190) -/

theorem adc_binary {t : State} (v : Byte) (hd : flag t.p .d = false) :
    adc v t = binaryResult (addBin t.a v (flag t.p .c)) t := by
  rw [adc, Run.get_bind, hd]
  rfl

/-- SBC is the sum with the one's complement (R190). -/
theorem sbc_binary {t : State} (v : Byte) (hd : flag t.p .d = false) :
    sbc v t = binaryResult (addBin t.a (~~~v) (flag t.p .c)) t := by
  rw [sbc, Run.get_bind, hd]
  rfl

/-- With D clear both operations are a binary sum, of the operand or of its complement. -/
theorem arithOperation_binary {n : Mnemonic} {v m : Byte} (h : (n, m) ∈ [(Mnemonic.adc, v), (.sbc, ~~~v)]) :
    ∃ f, arithOperation n = some f ∧
      ∀ t : State, flag t.p .d = false → f v t = binaryResult (addBin t.a m (flag t.p .c)) t := by
  simp only [List.mem_cons, List.not_mem_nil, or_false, Prod.mk.injEq] at h
  obtain ⟨rfl, rfl⟩ | ⟨rfl, rfl⟩ := h
  · exact ⟨adc, rfl, fun t => adc_binary m⟩
  · exact ⟨sbc, rfl, fun t => sbc_binary v⟩

/-- Settles O14: the sum is that of `addBin`, and with D clear the cost has no decimal part. -/
theorem adcSbcBinaryResultAndFlags : Obligations.adc_sbc_binary_result_and_flags := by
  unfold Obligations.adc_sbc_binary_result_and_flags
  intro i s m h hw hr hd sum r
  obtain ⟨f, hf, hsum⟩ := arithOperation_binary h
  have hnext := exec_arith_next hf hw hr (hsum ((s.counted (s.dataReads i.operand)).setPc (s.nextPc i)) hd)
  rw [hd] at hnext
  exact hnext

/-! ## Decimal mode (R191 to R193) -/

theorem adc_decimal {t : State} {m : Byte} (hd : flag t.p .d = true) (h : BcdOperands t.a m) :
    adc m t = decimalResult m (some (bcdEncode ((bcdValue t.a + bcdValue m + bitNat (flag t.p .c)) % 100),
      decide (100 ≤ bcdValue t.a + bcdValue m + bitNat (flag t.p .c)))) t := by
  rw [adc, Run.get_bind, hd, addBcd_of_bcd _ h]
  rfl

theorem sbc_decimal {t : State} {m : Byte} (hd : flag t.p .d = true) (h : BcdOperands t.a m) :
    sbc m t = decimalResult m
      (some (bcdEncode ((bcdValue t.a + 100 - bcdValue m - (1 - bitNat (flag t.p .c))) % 100),
        decide (bcdValue m + (1 - bitNat (flag t.p .c)) ≤ bcdValue t.a))) t := by
  rw [sbc, Run.get_bind, hd, subBcd_of_bcd _ h]
  rfl

/-- P after a decimal result: C as computed, D, I, B and bit 5 of `p`; N, Z and V are left open (log entry 7). -/
def DecimalFlags (p : Byte) (c : Bool) (q : Byte) : Prop :=
  flag q .c = c ∧ ∀ f ∈ [Flag.d, .i, .b, .u], flag q f = flag p f

theorem decimalFlags_setFlag (p : Byte) (c n z v : Bool) :
    DecimalFlags p c (setFlag (setFlag (setFlag (setFlag p .c c) .n n) .z z) .v v) := by
  simp [DecimalFlags, flag_setFlag]

/-- A decimal result writes A, P and the free values N, Z and V take. -/
theorem decimalResult_some (m r : Byte) (c : Bool) (s : State) :
    ∃ (p : Byte) (n : Nat), decimalResult m (some (r, c)) s = .ok () { s with a := r, p := p, draws := n } ∧
      DecimalFlags s.p c p :=
  ⟨_, _, rfl, decimalFlags_setFlag _ _ _ _ _⟩

/-- ADC or SBC where its operation comes to a decimal result. -/
theorem exec_decimal {i : Instr} {s : State} {f : Byte → Run Unit} {r : Byte} {c : Bool}
    (hf : arithOperation i.mnemonic = some f) (hw : WellFormed s.cfg.model i = true)
    (hr : s.allReadable (s.dataReads i.operand)) (hd : flag s.p .d = true)
    (hres : f (s.operandValue i.operand) ((s.counted (s.dataReads i.operand)).setPc (s.nextPc i)) =
      decimalResult (s.operandValue i.operand) (some (r, c))
        ((s.counted (s.dataReads i.operand)).setPc (s.nextPc i))) :
    ∃ (p : Byte) (n : Nat),
      exec i s = .next
        { s.past i (s.dataReads i.operand) { cross := s.operandCross i.operand, decimal := true } with
          a := r, p := p, draws := n } ∧
      DecimalFlags s.p c p := by
  obtain ⟨p, n, hok, hp⟩ := decimalResult_some (s.operandValue i.operand) r c
    ((s.counted (s.dataReads i.operand)).setPc (s.nextPc i))
  have hnext := exec_arith_next hf hw hr (hres.trans hok)
  rw [hd] at hnext
  exact ⟨p, n, hnext, hp⟩

/-- Settles O15: on BCD operands `addBcd` and `subBcd` have a result, which goes to A and C. -/
theorem adcSbcDecimalResultAndCarry : Obligations.adc_sbc_decimal_result_and_carry := by
  unfold Obligations.adc_sbc_decimal_result_and_carry
  intro i s hw hr hd ha hm dec enc a m carry t
  have hops : BcdOperands s.a (s.operandValue i.operand) := (Bool.and_eq_true _ _).mpr ⟨ha, hm⟩
  refine ⟨fun h => ?_, fun h => ?_⟩
  · exact exec_decimal (f := adc) (h ▸ rfl) hw hr hd (adc_decimal hd hops)
  · exact exec_decimal (f := sbc) (h ▸ rfl) hw hr hd (sbc_decimal hd hops)

/-! ## Comparisons (R194) -/

theorem flag_compareFlags (p r m : Byte) (f : Flag) :
    flag (compareFlags p r m) f =
      match f with
      | .c => decide (m.toNat ≤ r.toNat)
      | .z => decide (r = m)
      | .n => (r - m).msb
      | .v | .d | .i | .b | .u => flag p f := by
  unfold compareFlags
  split_ifs with h
  · subst h
    cases f <;> simp [flag_setFlag]
  · cases f <;> simp [flag_setFlag, h]

/-- The effect of each comparison is its flags, of the register it names. -/
theorem readEffect_compare {s : State} {n : Mnemonic} {r : Byte}
    (h : (n, r) ∈ [(Mnemonic.cmp, s.a), (.cpx, s.x), (.cpy, s.y)]) (o : Operand) :
    ∃ f, readEffect n o = some f ∧ ∀ (l : List Addr) (pc : Addr) (m : Byte),
      f ((s.counted l).setPc pc) m = ((s.counted l).setPc pc).setP (compareFlags s.p r m) := by
  simp only [List.mem_cons, List.not_mem_nil, or_false, Prod.mk.injEq] at h
  obtain ⟨rfl, rfl⟩ | ⟨rfl, rfl⟩ | ⟨rfl, rfl⟩ := h
  · exact ⟨State.compareA, rfl, fun _ _ _ => rfl⟩
  · exact ⟨State.compareX, rfl, fun _ _ _ => rfl⟩
  · exact ⟨State.compareY, rfl, fun _ _ _ => rfl⟩

/-- Settles O17: a comparison is a Read whose effect is the flags of R194. -/
theorem comparesWriteCZNAlone : Obligations.compares_write_c_z_n_alone := by
  unfold Obligations.compares_write_c_z_n_alone
  intro i s r h hw hr m
  obtain ⟨f, hf, heffect⟩ := readEffect_compare h i.operand
  have hflag := flag_compareFlags s.p r m
  refine ⟨compareFlags s.p r m, exec_readEffect_next hf hw hr (heffect _ _ m), hflag .c, hflag .z, hflag .n,
    fun g hg => ?_⟩
  fin_cases hg <;> exact hflag _

/-! ## Increments and decrements (R226 to R231) -/

/-- An RMW instruction whose address resolves and has no sink: one load and one store there, and the new P (R180). -/
theorem exec_rmw_next {i : Instr} {s : State} {m : MemMode} {ph : Phys} {f : Byte → Byte → Byte → Byte × Byte}
    {r : Byte × Byte} (hf : rmwResult i.mnemonic = some f) (hm : i.operand = .mem m)
    (hw : WellFormed s.cfg.model i = true) (hr : s.allReadable (s.modeReads m)) (hp : s.storesTo (s.ea m).addr ph)
    (hv : f s.a s.p (s.peek (s.ea m).addr) = r) :
    let t := s.past i (s.modeReads m ++ [(s.ea m).addr]) { cross := (s.ea m).cross }
    exec i s = .next
      { t with mem := s.mem.write ph r.1, counts := t.counts.write ph (t.counts.read ph + 1), p := r.2 } := by
  subst hv
  rw [exec_eq_rmwMem hf hm hw, rmwMem_next m _ hr hp.1 hp.2 rfl, ← s.nextPc_mem hm]
  rfl

theorem rmwResult_inc_dec (a p v : Byte) {n : Mnemonic} {r : Byte}
    (h : (n, r) ∈ [(Mnemonic.inc, v + 1), (.dec, v - 1)]) : ∃ f, rmwResult n = some f ∧ f a p v = (r, setNZ p r) := by
  simp only [List.mem_cons, List.not_mem_nil, or_false, Prod.mk.injEq] at h
  obtain ⟨rfl, rfl⟩ | ⟨rfl, rfl⟩ := h
  · exact ⟨fun _ => incValue, rfl, rfl⟩
  · exact ⟨fun _ => decValue, rfl, rfl⟩

/-- Settles O18: the RMW shape, with SetNZ of the byte stored. -/
theorem incDecMemoryResult : Obligations.inc_dec_memory_result := by
  unfold Obligations.inc_dec_memory_result
  intro i s m r ph h hm hw hr hp
  obtain ⟨f, hf, hv⟩ := rmwResult_inc_dec s.a s.p (s.peek (s.ea m).addr) h
  exact exec_rmw_next hf hm hw hr hp hv

/-- Settles O19: none has an operand byte, so PC stays past its opcode. -/
theorem incDecRegistersResult : Obligations.inc_dec_registers_result := by
  unfold Obligations.inc_dec_registers_result
  intro s
  have hpast (i : Instr) (h : i.operand.bytes.length = 0) := State.past_no_operand h s [] {}
  rw [hpast .incAcc rfl, hpast .decAcc rfl, hpast .inx rfl, hpast .iny rfl, hpast .dex rfl, hpast .dey rfl]
  exact ⟨fun hc => ⟨cmosOnly_cmos hc, cmosOnly_cmos hc⟩, rfl, rfl, rfl, rfl⟩

end Sys2Proof.Machine
end

section
/-! PROOFS. Logic, shifts and bit instructions (43_logic_shift_bit.md R241 to R252): the effect of AND, ORA, EOR and BIT on
their operand, the shifts and rotates as numbers, and the bits TRB, TSB, RMB and SMB write, each with the whole next state. -/

namespace Sys2Proof.Machine

/-! ## AND, ORA and EOR (R241 to R243) -/

/-- The effect of each of the three loads A with the value of its operation. -/
theorem readEffect_logic {s : State} {n : Mnemonic} {m r : Byte}
    (h : (n, r) ∈ [(Mnemonic.and, s.a &&& m), (.ora, s.a ||| m), (.eor, s.a ^^^ m)]) (o : Operand) :
    ∃ f, readEffect n o = some f ∧ ∀ (l : List Addr) (pc : Addr),
      f ((s.counted l).setPc pc) m = ((s.counted l).setPc pc).loadA r := by
  simp only [List.mem_cons, List.not_mem_nil, or_false, Prod.mk.injEq] at h
  obtain ⟨rfl, rfl⟩ | ⟨rfl, rfl⟩ | ⟨rfl, rfl⟩ := h
  · exact ⟨State.andA, rfl, fun _ _ => rfl⟩
  · exact ⟨State.orA, rfl, fun _ _ => rfl⟩
  · exact ⟨State.eorA, rfl, fun _ _ => rfl⟩

/-- Settles O22: each is a Read whose effect loads A. -/
theorem logicResultAndNz : Obligations.logic_result_and_nz := by
  unfold Obligations.logic_result_and_nz
  intro i s r h hw hr
  obtain ⟨f, hf, heffect⟩ := readEffect_logic h i.operand
  exact exec_readEffect_next hf hw hr (heffect _ _)

/-! ## BIT (R244) -/

theorem flag_testFlags (p a m : Byte) (f : Flag) :
    flag (testFlags p a m) f = if f = .z then decide (a &&& m = 0) else flag p f :=
  flag_setFlag p .z f (a &&& m == 0)

theorem flag_bitFlags (p a m : Byte) (f : Flag) :
    flag (bitFlags p a m) f =
      match f with
      | .z => decide (a &&& m = 0)
      | .n => m.getLsbD 7
      | .v => m.getLsbD 6
      | .c | .d | .i | .b | .u => flag p f := by
  cases f <;> simp [bitFlags, flag_setFlag, beq_eq_decide]

/-- BIT is the Z test alone at the opcode 0x89 and nowhere else. -/
theorem readEffect_bit {i : Instr} (h : i.mnemonic = .bit) :
    (i.opcode = 0x89 ∧ readEffect i.mnemonic i.operand = some State.bitImmA) ∨
      (i.opcode ≠ 0x89 ∧ readEffect i.mnemonic i.operand = some State.bitA) := by
  cases i with
  | bitImm _ => exact .inl ⟨rfl, rfl⟩
  | bitZp _ | bitZpx _ | bitAbs _ | bitAbsx _ => exact .inr ⟨by simp [Instr.opcode], rfl⟩
  | _ => cases h

/-- Settles O23: BIT is a Read whose effect is on P, and less so with an immediate operand. -/
theorem bitTestsOperandAgainstA : Obligations.bit_tests_operand_against_a := by
  unfold Obligations.bit_tests_operand_against_a
  intro i s h hw hr m
  obtain ⟨hop, hf⟩ | ⟨hop, hf⟩ := readEffect_bit h
  · have hflag := flag_testFlags s.p s.a m
    refine ⟨testFlags s.p s.a m, exec_readEffect_next hf hw hr rfl, hflag .z, fun g hg => ?_,
      fun hne => absurd hop hne, fun _ => ⟨hflag .n, hflag .v⟩⟩
    fin_cases hg <;> exact hflag _
  · have hflag := flag_bitFlags s.p s.a m
    refine ⟨bitFlags s.p s.a m, exec_readEffect_next hf hw hr rfl, hflag .z, fun g hg => ?_,
      fun _ => ⟨hflag .n, hflag .v⟩, fun he => absurd he hop⟩
    fin_cases hg <;> exact hflag _

/-! ## Shifts and rotates (R245 to R248) -/

theorem shiftLeft_one_eq (v : Byte) : v <<< 1 = BitVec.ofNat 8 (v.toNat * 2) := by
  apply BitVec.eq_of_toNat_eq
  simp [Nat.shiftLeft_eq]

theorem ushiftRight_one_eq (v : Byte) : v >>> 1 = BitVec.ofNat 8 (v.toNat / 2) := by
  have hv := v.isLt
  apply BitVec.eq_of_toNat_eq
  rw [BitVec.toNat_ushiftRight, BitVec.toNat_ofNat, Nat.shiftRight_eq_div_pow]
  omega

/-- Setting a clear bit adds its place value. -/
theorem or_twoPow_eq_add {x : Byte} {k : Nat} (h : x.getLsbD k = false) :
    x ||| BitVec.twoPow 8 k = x + BitVec.twoPow 8 k := by
  refine (BitVec.add_eq_or_of_and_eq_zero x _ ?_).symm
  rw [BitVec.and_twoPow, h]
  rfl

/-- Bit 0 is clear after the shift, so the old C adds 1 at most. -/
theorem rotateLeft_eq (v : Byte) (c : Bool) :
    v <<< 1 ||| (if c then 0x01 else 0) = BitVec.ofNat 8 (v.toNat * 2 + if c then 1 else 0) := by
  have hclear : (v <<< 1).getLsbD 0 = false := by simp
  cases c with
  | false => simpa using shiftLeft_one_eq v
  | true =>
    refine (or_twoPow_eq_add hclear).trans ?_
    rw [shiftLeft_one_eq]
    exact (BitVec.ofNat_add _ _).symm

/-- Bit 7 is clear after the shift, so the old C adds 128 there. -/
theorem rotateRight_eq (v : Byte) (c : Bool) :
    v >>> 1 ||| (if c then 0x80 else 0) = BitVec.ofNat 8 (v.toNat / 2 + 128 * if c then 1 else 0) := by
  have hclear : (v >>> 1).getLsbD 7 = false := by simp
  cases c with
  | false => simpa using ushiftRight_one_eq v
  | true =>
    refine (or_twoPow_eq_add hclear).trans ?_
    rw [ushiftRight_one_eq]
    exact (BitVec.ofNat_add _ _).symm

/-- The result and the new P of a shift or rotate, of P and its operand; none for every other instruction. -/
def shiftResult : Mnemonic → Option (Byte → Byte → Byte × Byte)
  | .asl => some aslValue
  | .lsr => some lsrValue
  | .rol => some rolValue
  | .ror => some rorValue
  | _ => none

/-- Each shift as a number, C the bit it shifts out, Z and N of the result. -/
theorem shiftResult_of_mem {p v : Byte} {n : Mnemonic} {r : Byte} {c : Bool}
    (h : (n, r, c) ∈
      [(Mnemonic.asl, BitVec.ofNat 8 (v.toNat * 2), v.getLsbD 7), (.lsr, BitVec.ofNat 8 (v.toNat / 2), v.getLsbD 0),
        (.rol, BitVec.ofNat 8 (v.toNat * 2 + if flag p .c then 1 else 0), v.getLsbD 7),
        (.ror, BitVec.ofNat 8 (v.toNat / 2 + 128 * if flag p .c then 1 else 0), v.getLsbD 0)]) :
    ∃ f, shiftResult n = some f ∧ f p v = (r, setNZ (setFlag p .c c) r) := by
  simp only [List.mem_cons, List.not_mem_nil, or_false, Prod.mk.injEq] at h
  obtain ⟨rfl, rfl, rfl⟩ | ⟨rfl, rfl, rfl⟩ | ⟨rfl, rfl, rfl⟩ | ⟨rfl, rfl, rfl⟩ := h
  · exact ⟨aslValue, rfl, by rw [← shiftLeft_one_eq]; rfl⟩
  · exact ⟨lsrValue, rfl, by rw [← ushiftRight_one_eq]; rfl⟩
  · exact ⟨rolValue, rfl, by rw [← rotateLeft_eq]; rfl⟩
  · exact ⟨rorValue, rfl, by rw [← rotateRight_eq]; rfl⟩

theorem rmwResult_of_shiftResult {n : Mnemonic} {f : Byte → Byte → Byte × Byte} (h : shiftResult n = some f) :
    rmwResult n = some fun _ => f := by
  cases n with
  | asl | lsr | rol | ror => cases h; rfl
  | _ => cases h

/-- Every form of a shift is in both tables (R149). -/
theorem wellFormed_of_shiftResult {i : Instr} {f : Byte → Byte → Byte × Byte} (h : shiftResult i.mnemonic = some f)
    (model : CpuModel) : WellFormed model i = true := by
  cases i with
  | aslAcc | aslZp _ | aslZpx _ | aslAbs _ | aslAbsx _ | lsrAcc | lsrZp _ | lsrZpx _ | lsrAbs _ | lsrAbsx _ | rolAcc
  | rolZp _ | rolZpx _ | rolAbs _ | rolAbsx _ | rorAcc | rorZp _ | rorZpx _ | rorAbs _ | rorAbsx _ =>
    cases model <;> rfl
  | _ => cases h

/-- Settles O24: the RMW shape, well-formed on either model. -/
theorem shiftsMemoryResultAndCarry : Obligations.shifts_memory_result_and_carry := by
  unfold Obligations.shifts_memory_result_and_carry
  intro i s m r c ph v old h hm hr hp
  obtain ⟨f, hf, hv⟩ := shiftResult_of_mem h
  exact exec_rmw_next (rmwResult_of_shiftResult hf) hm (wellFormed_of_shiftResult hf _) hr hp hv

/-- The accumulator form of a shift writes A and P, with PC past its opcode (R179). -/
theorem exec_shift_accumulator {i : Instr} {f : Byte → Byte → Byte × Byte} {r : Byte × Byte} (s : State)
    (hf : shiftResult i.mnemonic = some f) (ha : i.operand = .acc) (hv : f s.p s.a = r) :
    exec i s = .next { s.past i [] {} with a := r.1, p := r.2 } := by
  subst hv
  rw [State.past_no_operand (by rw [ha]; rfl)]
  cases i with
  | aslAcc | lsrAcc | rolAcc | rorAcc => cases hf; rfl
  | aslZp _ | aslZpx _ | aslAbs _ | aslAbsx _ | lsrZp _ | lsrZpx _ | lsrAbs _ | lsrAbsx _ | rolZp _ | rolZpx _
  | rolAbs _ | rolAbsx _ | rorZp _ | rorZpx _ | rorAbs _ | rorAbsx _ => cases ha
  | _ => cases hf

/-- Settles O25: the four instructions by mnemonic, all of the accumulator format. -/
theorem shiftsAccumulatorResultAndCarry : Obligations.shifts_accumulator_result_and_carry := by
  unfold Obligations.shifts_accumulator_result_and_carry
  intro i s r c old h
  have hacc : i.operand = .acc := by
    simp only [List.mem_cons, List.not_mem_nil, or_false, Prod.mk.injEq] at h
    obtain ⟨rfl, -⟩ | ⟨rfl, -⟩ | ⟨rfl, -⟩ | ⟨rfl, -⟩ := h <;> rfl
  obtain ⟨f, hf, hv⟩ := shiftResult_of_mem (List.mem_map_of_mem (f := fun e => (e.1.mnemonic, e.2)) h)
  exact exec_shift_accumulator s hf hacc hv

/-! ## TRB, TSB, RMB and SMB (R249 to R252) -/

theorem trbValue_eq (a p v : Byte) :
    trbValue a p v = (v &&& (0xFF ^^^ a), setFlag p .z (decide (a &&& v = 0))) :=
  congrArg (v &&& ·, testFlags p a v) BitVec.allOnes_xor.symm

theorem bitMask_eq (b : Fin 8) : bitMask b = BitVec.ofNat 8 (2 ^ b.val) := by
  revert b
  decide

theorem rmbValue_eq (b : Fin 8) (p v : Byte) :
    rmbValue b p v = (v &&& (0xFF ^^^ BitVec.ofNat 8 (2 ^ b.val)), p) := by
  rw [← bitMask_eq]
  exact congrArg (v &&& ·, p) BitVec.allOnes_xor.symm

theorem smbValue_eq (b : Fin 8) (p v : Byte) : smbValue b p v = (v ||| BitVec.ofNat 8 (2 ^ b.val), p) := by
  rw [← bitMask_eq]
  rfl

/-- Settles O26: four RMW operations, of which RMB and SMB store P as it was. -/
theorem trbTsbRmbSmbResult : Obligations.trb_tsb_rmb_smb_result := by
  unfold Obligations.trb_tsb_rmb_smb_result
  intro i s m ph hm hw hr hp v t stored
  refine ⟨fun h => ?_, fun h => ?_, fun b h => ?_, fun b h => ?_⟩
  · exact exec_rmw_next (f := trbValue) (h ▸ rfl) hm hw hr hp (trbValue_eq ..)
  · exact exec_rmw_next (f := tsbValue) (h ▸ rfl) hm hw hr hp rfl
  · exact exec_rmw_next (f := fun _ => rmbValue b) (h ▸ rfl) hm hw hr hp (rmbValue_eq ..)
  · exact exec_rmw_next (f := fun _ => smbValue b) (h ▸ rfl) hm hw hr hp (smbValue_eq ..)

end Sys2Proof.Machine
end

section
/-! PROOFS. Control (44_control.md R260 to R277): branches, jumps, subroutines and returns, each with the whole next state. -/

namespace Sys2Proof.Machine

/-! ## Branches of one operand byte (R177, R261 to R269) -/

/-- A signed offset as a number added to an address, modulo 2^16 (R14). -/
theorem add_relOffset (a : Addr) (r : Byte) :
    a + relOffset r =
      BitVec.ofInt 16 (a.toNat + (if r.toNat < 0x80 then (r.toNat : Int) else r.toNat - 256)) := by
  have hint : r.toInt = if r.toNat < 0x80 then (r.toNat : Int) else r.toNat - 256 := by
    rw [BitVec.toInt_eq_toNat_cond]
    split_ifs <;> omega
  rw [BitVec.ofInt_add, BitVec.ofInt_natCast, BitVec.ofNat_toNat, BitVec.setWidth_eq, ← hint]
  rfl

section RelBranch

variable {i : Instr} {s : State} {pc : Addr} (l : List Addr) (r : Byte) (hpc : s.nextPc i = pc + 1)
include hpc

/-- An instruction that ends in a branch not taken: after the loads `l`, with PC at the offset byte, that byte is passed. -/
theorem runInstr_relBranch_not_taken :
    runInstr i.opcode (relBranch false r) ((s.counted l).setPc pc) = .next (s.past i l {}) := by
  rw [runInstr_ok (relBranch_not_taken r _), State.past, hpc]
  rfl

/-- An instruction that ends in a taken branch: the offset byte is loaded after the loads `l`. -/
theorem runInstr_relBranch_taken {target : Addr} (htarget : s.nextPc i + relOffset r = target)
    (hr : s.readable pc = true) :
    runInstr i.opcode (relBranch true r) ((s.counted l).setPc pc) = .next
      { s.past i (l ++ [pc]) { taken := true, cross := pageCross (s.nextPc i) target } with pc := target } := by
  subst htarget
  rw [hpc, runInstr_ok (relBranch_taken r (s := (s.counted l).setPc pc) hr), State.counted_setPc, State.counted_append]
  rfl

end RelBranch

/-- The branches with a condition are in both tables (R149). -/
theorem wellFormed_of_branch_not_taken {i : Instr} {c : Byte → Bool} {p : Byte}
    (hc : branchCondition i.mnemonic = some c) (hp : c p = false) (model : CpuModel) : WellFormed model i = true := by
  cases i with
  | bpl _ | bmi _ | bvc _ | bvs _ | bcc _ | bcs _ | bne _ | beq _ => cases model <;> rfl
  | bra _ => cases hc; cases hp
  | _ => cases hc

/-- A branch is decided by P as it is before the offset byte is touched (R260). -/
theorem branch_eq_relBranch (op : Byte) (c : Byte → Bool) (r : Byte) (s : State) :
    branch op c r s = runInstr op (relBranch (c s.p) r) ((s.counted []).setPc s.pc) := rfl

theorem State.nextPc_rel {i : Instr} {r : Byte} (s : State) (h : i.operand = .rel r) : s.nextPc i = s.pc + 1 := by
  rw [State.nextPc, h]
  rfl

/-- Settles O27: a condition that fails is not that of BRA, and no load comes before the offset byte. -/
theorem branchNotTakenPassesItsOffset : Obligations.branch_not_taken_passes_its_offset := by
  unfold Obligations.branch_not_taken_passes_its_offset
  intro i s h
  obtain ⟨c, hc, hp⟩ := branchCondition_of_mem (List.mem_append_left [(.bra, true)] h)
  obtain ⟨r, ho, he⟩ := exec_eq_branch hc (wellFormed_of_branch_not_taken hc hp s.cfg.model)
  rw [he, branch_eq_relBranch, hp]
  exact runInstr_relBranch_not_taken [] r (s.nextPc_rel ho)

/-- Settles O28: the offset is the one load, and the target is the sum as a number. -/
theorem branchTakenGoesToItsTarget : Obligations.branch_taken_goes_to_its_target := by
  unfold Obligations.branch_taken_goes_to_its_target
  intro i s r h ho hw hr target
  obtain ⟨c, hc, hp⟩ := branchCondition_of_mem h
  obtain ⟨r', ho', he⟩ := exec_eq_branch hc hw
  cases ho.symm.trans ho'
  rw [he, branch_eq_relBranch, hp]
  exact runInstr_relBranch_taken [] r (s.nextPc_rel ho) (add_relOffset _ r) hr

/-! ## BBRb and BBSb (R178, R270, R271) -/

/-- Once the zero-page byte is loaded, a bit branch is a branch on its bit. -/
theorem bitBranch_eq_relBranch (op : Byte) (b : Fin 8) (want : Bool) (z r : Byte) {s : State}
    (hr : s.allReadable [s.pc, zeroPage z]) :
    bitBranch op b want z r s =
      runInstr op (relBranch ((s.peek (zeroPage z)).getLsbD b.val == want) r)
        ((s.counted [s.pc, zeroPage z]).setPc (s.pc + 1)) := by
  obtain ⟨hpc, hz⟩ := State.allReadable_cons.1 hr
  have hbyte := memRead_ok (s := (s.counted [s.pc]).setPc (s.pc + 1)) (hz _ List.mem_cons_self)
  rw [bitBranch, runInstr_bind_ok (fetchOperand_ok z hpc), runInstr_bind_ok hbyte]
  rfl

theorem State.nextPc_zprel {i : Instr} {z r : Byte} (s : State) (h : i.operand = .zprel z r) :
    s.nextPc i = s.pc + 1 + 1 := by
  rw [State.nextPc, h, BitVec.add_assoc]
  rfl

section BitBranch

variable {i : Instr} {s : State} {b : Fin 8} {want : Bool} {z r : Byte}
  (hb : bitCondition i.mnemonic = some (b, want)) (ho : i.operand = .zprel z r) (hw : WellFormed s.cfg.model i = true)
  (hr : s.allReadable [s.pc, zeroPage z])
include hb ho hw hr

theorem exec_bitBranch_not_taken (hbit : (s.peek (zeroPage z)).getLsbD b.val = !want) :
    exec i s = .next (s.past i [s.pc, zeroPage z] {}) := by
  rw [exec_eq_bitBranch hb ho hw, bitBranch_eq_relBranch _ _ _ _ _ hr, hbit, Bool.not_beq_self]
  exact runInstr_relBranch_not_taken _ r (s.nextPc_zprel ho)

theorem exec_bitBranch_taken {target : Addr} (htarget : s.nextPc i + relOffset r = target)
    (hbit : (s.peek (zeroPage z)).getLsbD b.val = want) (hoff : s.readable (s.pc + 1) = true) :
    exec i s = .next
      { s.past i [s.pc, zeroPage z, s.pc + 1] { taken := true, cross := pageCross (s.nextPc i) target } with
        pc := target } := by
  rw [exec_eq_bitBranch hb ho hw, bitBranch_eq_relBranch _ _ _ _ _ hr, hbit, beq_self_eq_true]
  exact runInstr_relBranch_taken _ r (s.nextPc_zprel ho) htarget hoff

end BitBranch

/-- Settles O29: BBRb branches on a clear bit and BBSb on a set one. -/
theorem bitBranchesTestOneBit : Obligations.bit_branches_test_one_bit := by
  unfold Obligations.bit_branches_test_one_bit
  intro i s b z r ho hw hr bit target
  have htarget : s.nextPc i + relOffset r = target := add_relOffset _ r
  constructor
  · rintro (⟨hn, hbit⟩ | ⟨hn, hbit⟩)
    · exact exec_bitBranch_not_taken (want := false) (hn ▸ rfl) ho hw hr hbit
    · exact exec_bitBranch_not_taken (want := true) (hn ▸ rfl) ho hw hr hbit
  · rintro (⟨hn, hbit⟩ | ⟨hn, hbit⟩) hoff
    · exact exec_bitBranch_taken (want := false) (hn ▸ rfl) ho hw hr htarget hbit hoff
    · exact exec_bitBranch_taken (want := true) (hn ▸ rfl) ho hw hr htarget hbit hoff

/-! ## Jumps (R174 to R176, R272) -/

/-- The loads of a pointer, low byte first. -/
theorem memRead_pointer_ok {s : State} {low high : Addr} (h : s.allReadable [low, high]) :
    (memRead low >>= fun l => memRead high >>= fun h => pure (w16 h l) : Run Addr) s =
      .ok (w16 (s.peek high) (s.peek low)) (s.counted [low, high]) := by
  obtain ⟨hlow, hrest⟩ := State.allReadable_cons.1 h
  have hhigh := memRead_ok (s := s.counted [low]) (hrest _ List.mem_cons_self)
  rw [Run.bind_ok (memRead_ok hlow), Run.bind_ok hhigh]
  rfl

/-- The end of a jump whose target has been found with the loads `l`. -/
theorem runInstr_jump {i : Instr} {s : State} {x : Run Addr} {l : List Addr} {target pc : Addr}
    (h : x s = .ok target ((s.counted l).setPc pc)) :
    runInstr i.opcode (x >>= fun a => modify (fun s => s.setPc a) >>= fun _ => pure {}) s =
      .next { s.past i l {} with pc := target } := by
  rw [runInstr_bind_ok h]
  rfl

section Jump

variable (a : Addr) {s : State} (hr : s.allReadable [s.pc, s.pc + 1])
include hr

theorem fetchWord_ok_of_allReadable : fetchWord a s = .ok a ((s.counted [s.pc, s.pc + 1]).setPc (s.pc + 2)) := by
  obtain ⟨h0, h1⟩ := State.allReadable_cons.1 hr
  exact fetchWord_ok a h0 (h1 _ List.mem_cons_self)

theorem indirectTarget_ok (h : s.allReadable [a, indirectHigh s.cfg.model a]) :
    indirectTarget a s = .ok (w16 (s.peek (indirectHigh s.cfg.model a)) (s.peek a))
      ((s.counted [s.pc, s.pc + 1, a, indirectHigh s.cfg.model a]).setPc (s.pc + 2)) := by
  rw [indirectTarget, Run.bind_ok (fetchWord_ok_of_allReadable a hr), Run.get_bind]
  exact memRead_pointer_ok (s := (s.counted [s.pc, s.pc + 1]).setPc (s.pc + 2)) h

theorem indexedIndirectTarget_ok (h : s.allReadable [a + indexOf s.x, a + indexOf s.x + 1]) :
    indexedIndirectTarget a s = .ok (w16 (s.peek (a + indexOf s.x + 1)) (s.peek (a + indexOf s.x)))
      ((s.counted [s.pc, s.pc + 1, a + indexOf s.x, a + indexOf s.x + 1]).setPc (s.pc + 2)) := by
  rw [indexedIndirectTarget, Run.bind_ok (fetchWord_ok_of_allReadable a hr), Run.get_bind]
  exact memRead_pointer_ok (s := (s.counted [s.pc, s.pc + 1]).setPc (s.pc + 2)) h

end Jump

/-- The place of the high pointer byte by model (R174, R175). -/
theorem indirectHigh_of_mem {model : CpuModel} {a h : Addr}
    (hh : (model, h) ∈ [(CpuModel.nmos6502, w16 (hi8 a) (lo8 a + 1)), (.cmos65c02, a + 1)]) :
    indirectHigh model a = h := by
  simp only [List.mem_cons, List.not_mem_nil, or_false, Prod.mk.injEq] at hh
  obtain ⟨rfl, rfl⟩ | ⟨rfl, rfl⟩ := hh <;> rfl

/-- Settles O30: each jump goes to what its operand's loads give. -/
theorem jumpsGoToTheirTarget : Obligations.jumps_go_to_their_target := by
  unfold Obligations.jumps_go_to_their_target
  intro a s hr
  refine ⟨runInstr_jump (i := .jmpAbs a) (fetchWord_ok_of_allReadable a hr), fun h hh hp => ?_, fun hc hp => ?_⟩
  · cases indirectHigh_of_mem hh
    exact runInstr_jump (i := .jmpInd a) (indirectTarget_ok a hr hp)
  · exact (cmosOnly_cmos hc).trans (runInstr_jump (i := .jmpAix a) (indexedIndirectTarget_ok a hr hp))

/-! ## JSR (R182, R273) -/

/-- Settles O31: two stores at the backend, the second in the state the first leaves, where its address resolves as before. -/
theorem jsrPushesReturnAddressAndJumps : Obligations.jsr_pushes_return_address_and_jumps := by
  unfold Obligations.jsr_pushes_return_address_and_jumps
  rintro a s ph ph' hr ⟨hs, hp⟩ ⟨hs', hp'⟩ t ret counted
  have hhigh : s.jsrHigh = (none, (s.counted [s.pc, s.pc + 1]).storeAt ph (hi8 ret)) :=
    State.stored_backend (s := s.counted [s.pc, s.pc + 1]) _ hs hp
  have hresolve := (resolve_stack_storeAt (s := s.counted [s.pc, s.pc + 1]) (v := hi8 ret) (s.sp - 1) hp).trans hp'
  have hlow : s.jsrLow = (none, ((s.counted [s.pc, s.pc + 1]).storeAt ph (hi8 ret)).storeAt ph' (lo8 ret)) := by
    rw [State.jsrLow, hhigh]
    exact State.stored_backend _ hs' hresolve
  rw [execJsr_done a hr (congrArg Prod.fst hhigh) (congrArg Prod.fst hlow), hlow]
  rfl

/-! ## RTS and RTI (R183, R274, R275) -/

/-- The pulls of a return address, its low byte first, and the jump to what is made of it. -/
theorem runInstr_pop_pop_jump (op : Byte) (f : Byte → Byte → Addr) {s : State}
    (h : s.allReadable [stackAddr (s.sp + 1), stackAddr (s.sp + 2)]) :
    runInstr op (pop >>= fun l => pop >>= fun h => modify (fun s => s.setPc (f l h)) >>= fun _ => pure {}) s =
      .next ((((s.counted [stackAddr (s.sp + 1), stackAddr (s.sp + 2)]).setSp (s.sp + 2)).setPc
        (f (s.peek (stackAddr (s.sp + 1))) (s.peek (stackAddr (s.sp + 2))))).addCycles (instrCost s.cfg op {})) := by
  have hsp : s.sp + 2 = s.sp + 1 + 1 := (BitVec.add_assoc s.sp 1 1).symm
  rw [hsp] at h ⊢
  obtain ⟨hlow, hrest⟩ := State.allReadable_cons.1 h
  have hhigh := pop_ok (s := (s.counted [stackAddr (s.sp + 1)]).setSp (s.sp + 1)) (hrest _ List.mem_cons_self)
  rw [runInstr_bind_ok (pop_ok hlow), runInstr_bind_ok hhigh]
  rfl

/-- P decides no address, so the return address is pulled as by RTS, from one further up. -/
theorem exec_rti_next {s : State}
    (h : s.allReadable [stackAddr (s.sp + 1), stackAddr (s.sp + 2), stackAddr (s.sp + 3)]) :
    exec .rti s = .next
      (((((s.counted [stackAddr (s.sp + 1), stackAddr (s.sp + 2), stackAddr (s.sp + 3)]).setSp (s.sp + 3)).setP
        (s.peek (stackAddr (s.sp + 1)))).setPc
        (w16 (s.peek (stackAddr (s.sp + 3))) (s.peek (stackAddr (s.sp + 2))))).addCycles (instrCost s.cfg 0x40 {})) := by
  have hlow : s.sp + 2 = s.sp + 1 + 1 := (BitVec.add_assoc s.sp 1 1).symm
  have hhigh : s.sp + 3 = s.sp + 1 + 2 := (BitVec.add_assoc s.sp 1 2).symm
  rw [hlow, hhigh] at h ⊢
  obtain ⟨hp, hrest⟩ := State.allReadable_cons.1 h
  have hjump := runInstr_pop_pop_jump 0x40 (fun l h => w16 h l)
    (s := ((s.counted [stackAddr (s.sp + 1)]).setSp (s.sp + 1)).setP (s.peek (stackAddr (s.sp + 1)))) hrest
  simp only [State.setP_sp, State.setSp_sp, State.peek_setP, State.peek_setSp, State.peek_counted,
    State.counted_setP, State.counted_setSp, State.counted_append] at hjump
  exact (runInstr_bind_ok (op := 0x40) (pop_ok hp)).trans hjump

/-- Settles O32: neither has an operand byte, and the stack addresses of the statement are those of `pop`. -/
theorem returnsPullTheirAddress : Obligations.returns_pull_their_address := by
  unfold Obligations.returns_pull_their_address
  intro s
  rw [State.past_no_operand rfl, State.past_no_operand rfl]
  exact ⟨runInstr_pop_pop_jump 0x60 (fun l h => w16 h l + 1), exec_rti_next⟩

/-! ## BRK and NOP (R276, R277) -/

/-- Settles O33: neither has an operand byte, so PC stays past its opcode. -/
theorem brkHaltsAndNopAdvances : Obligations.brk_halts_and_nop_advances := by
  unfold Obligations.brk_halts_and_nop_advances
  intro s
  have hpast (i : Instr) (h : i.operand.bytes.length = 0) := State.past_no_operand h s [] {}
  rw [hpast .brk rfl, hpast .nop rfl]
  exact ⟨rfl, rfl⟩

end Sys2Proof.Machine
end

section
/-! PROOFS. Stack and flag instructions (45_stack_flags.md R291 to R305): pushes, pulls and the writes of one flag, each with
the whole next state. -/

namespace Sys2Proof.Machine

theorem State.past_imp {i : Instr} (h : i.operand = .imp) (s : State) (addrs : List Addr) (t : Timing) :
    s.past i addrs t = (s.counted addrs).addCycles (instrCost s.cfg i.opcode t) :=
  State.past_no_operand (congrArg (fun o => o.bytes.length) h) s addrs t

/-! ## Pushes (R182, R291, R292, R295, R296) -/

/-- Settles O34: each is the push of its byte, and none has an operand byte. -/
theorem pushesStoreAndLowerSp : Obligations.pushes_store_and_lower_sp := by
  unfold Obligations.pushes_store_and_lower_sp
  rintro i s v ph h hw ⟨hs, hp⟩ t
  obtain ⟨hi, f, he, rfl⟩ := exec_eq_pushByte h hw
  have ht : t = s.addCycles (instrCost s.cfg i.opcode {}) := State.past_imp hi s [] {}
  rw [he, pushByte_next f hs hp, ht]
  rfl

/-! ## Pulls (R183, R293, R294, R297, R298) -/

/-- Settles O35: SP has risen and the byte is counted before the register or P takes it. -/
theorem pullsLoadAndRaiseSp : Obligations.pulls_load_and_raise_sp := by
  unfold Obligations.pulls_load_and_raise_sp
  intro s hr v past
  have hpast (i : Instr) (h : i.operand = .imp) :
      past i = ((s.counted [stackAddr (s.sp + 1)]).setSp (s.sp + 1)).addCycles (instrCost s.cfg i.opcode {}) :=
    congrArg (fun t => t.setSp (s.sp + 1)) (State.past_imp h s [stackAddr (s.sp + 1)] {})
  rw [hpast .pla rfl, hpast .plp rfl, hpast .plx rfl, hpast .ply rfl]
  refine ⟨pullByte_next State.loadA hr rfl, pullByte_next State.setP hr rfl, fun hc => ⟨?_, ?_⟩⟩
  · exact (cmosOnly_cmos hc).trans (pullByte_next State.loadX hr rfl)
  · exact (cmosOnly_cmos hc).trans (pullByte_next State.loadY hr rfl)

/-! ## Flags (R299 to R305) -/

theorem exec_eq_implied_putFlag {i : Instr} {f : Flag} {v : Bool} (s : State)
    (h : (i, f, v) ∈ [(Instr.clc, Flag.c, false), (.cld, .d, false), (.cli, .i, false), (.clv, .v, false),
      (.sec, .c, true), (.sed, .d, true), (.sei, .i, true)]) :
    i.operand = .imp ∧ exec i s = implied i.opcode (fun s => s.putFlag f v) s := by
  simp only [List.mem_cons, List.not_mem_nil, or_false, Prod.mk.injEq] at h
  obtain ⟨rfl, rfl, rfl⟩ | ⟨rfl, rfl, rfl⟩ | ⟨rfl, rfl, rfl⟩ | ⟨rfl, rfl, rfl⟩ | ⟨rfl, rfl, rfl⟩ | ⟨rfl, rfl, rfl⟩ |
    ⟨rfl, rfl, rfl⟩ := h <;> exact ⟨rfl, rfl⟩

/-- Settles O36: the new P is the old one with the one flag set to its value. -/
theorem flagInstructionsWriteOneFlag : Obligations.flag_instructions_write_one_flag := by
  unfold Obligations.flag_instructions_write_one_flag
  intro i s f v h
  obtain ⟨hi, he⟩ := exec_eq_implied_putFlag s h
  refine ⟨setFlag s.p f v, ?_, flag_setFlag_same s.p f v, fun g => flag_setFlag_other s.p v⟩
  rw [he, implied_next, State.past_imp hi]
  rfl

end Sys2Proof.Machine
end

section
/-! PROOFS. Faults (60_exceptions.md R310 to R313): what taking one keeps, and the faults of the opcode fetch, of an illegal
opcode and of decimal arithmetic. -/

namespace Sys2Proof.Machine

/-- Settles O7: `takeFault` writes the registers, PC, CYCLES, status, FAULT, results and the count of draws alone. -/
theorem takingAFaultRecordsItAndKeepsMemory : Obligations.taking_a_fault_records_it_and_keeps_memory := by
  unfold Obligations.taking_a_fault_records_it_and_keeps_memory
  exact fun f s => ⟨rfl, rfl, rfl, rfl, rfl, rfl, rfl, rfl, rfl⟩

/-- A fault leaves nothing of PC (R58). -/
theorem takeFault_setPc (f : FaultRecord) (s : State) (pc : Addr) : takeFault f (s.setPc pc) = takeFault f s := rfl

/-! ## The opcode fetch (R161, R162, R311, R312) -/

/-- A list that begins with an opcode no instruction of the model has does not decode. -/
theorem decode_error_of_illegal {m : CpuModel} {op : Byte} (h : ∀ i : Instr, WellFormed m i = true → i.opcode ≠ op)
    (tail : List Byte) : ∃ e, decode m (op :: tail) = .error e := by
  cases hd : decode m (op :: tail) with
  | error e => exact ⟨e, rfl⟩
  | ok r =>
    obtain ⟨i, rest⟩ := r
    obtain ⟨hw, hbytes⟩ := whatDecodesIsWellFormedAndItsEncoding m i _ _ hd
    have hop : op = i.opcode := (List.cons.inj hbytes).1
    exact absurd hop.symm (h i hw)

theorem stepInstr_unreadable {s : State} (h : s.readable s.pc = false) :
    stepInstr s = .next (takeFault (.outOfRange s.pc .load) s) := by
  rw [stepInstr, fetchByte_error h]

theorem stepInstr_illegal {s : State} (hr : s.readable s.pc = true)
    (h : ∀ i : Instr, WellFormed s.cfg.model i = true → i.opcode ≠ s.peek s.pc) :
    stepInstr s = .next (takeFault (.illegalOpcode (s.peek s.pc) s.pc) (s.counted [s.pc])) := by
  obtain ⟨e, he⟩ := decode_error_of_illegal h [s.peek (s.pc + 1), s.peek (s.pc + 2)]
  rw [stepInstr, fetchByte_ok hr, State.fetchWindow]
  dsimp only
  rw [State.setPc_cfg, State.counted_cfg, he]
  dsimp only
  rw [State.setPc_pc, BitVec.add_sub_cancel, takeFault_setPc]

/-- Settles O6: the step of a run is `stepInstr`, which faults at the fetch or at the decoder. -/
theorem stepFaultsOnIllegalOrUnreadableOpcode : Obligations.step_faults_on_illegal_or_unreadable_opcode := by
  unfold Obligations.step_faults_on_illegal_or_unreadable_opcode
  intro s hc hs
  rw [step_running hc hs]
  exact ⟨stepInstr_illegal, stepInstr_unreadable⟩

/-! ## Decimal arithmetic (R191, R313) -/

theorem not_bcdOperands {a m : Byte} (h : 9 < a.toNat / 16 ∨ 9 < a.toNat % 16 ∨ 9 < m.toNat / 16 ∨ 9 < m.toNat % 16) :
    ¬BcdOperands a m := by
  rw [bcdOperands_iff]
  omega

theorem adc_invalid {t : State} {m : Byte} (hd : flag t.p .d = true) (h : ¬BcdOperands t.a m) :
    adc m t = .error (.invalidBCD t.a m) t := by
  rw [adc, Run.get_bind, hd, (addBcd_eq_none_iff _ _ _).2 h]
  rfl

theorem sbc_invalid {t : State} {m : Byte} (hd : flag t.p .d = true) (h : ¬BcdOperands t.a m) :
    sbc m t = .error (.invalidBCD t.a m) t := by
  rw [sbc, Run.get_bind, hd, (subBcd_eq_none_iff _ _ _).2 h]
  rfl

/-- ADC and SBC are one operation each, and in decimal mode both refuse operands that are not BCD. -/
theorem arithOperation_invalid {n : Mnemonic} (h : n ∈ [Mnemonic.adc, .sbc]) :
    ∃ f, arithOperation n = some f ∧ ∀ (t : State) (m : Byte), flag t.p .d = true → ¬BcdOperands t.a m →
      f m t = .error (.invalidBCD t.a m) t := by
  simp only [List.mem_cons, List.not_mem_nil, or_false] at h
  obtain rfl | rfl := h
  · exact ⟨adc, rfl, fun _ _ => adc_invalid⟩
  · exact ⟨sbc, rfl, fun _ _ => sbc_invalid⟩

/-- Settles O16: the operation is refused in the state in which the operand has been loaded. -/
theorem invalidBcdOperandFaults : Obligations.invalid_bcd_operand_faults := by
  unfold Obligations.invalid_bcd_operand_faults
  intro i s h hw hr hd hnibble
  obtain ⟨f, hf, hfault⟩ := arithOperation_invalid h
  have hbody := hfault ((s.counted (s.dataReads i.operand)).setPc (s.nextPc i)) (s.operandValue i.operand) hd
    (not_bcdOperands hnibble)
  rw [exec_arith hf hw hr, runInstr_error (Run.bind_error hbody), takeFault_setPc]
  rfl

end Sys2Proof.Machine
end

section
/-! PROOFS. The cutoff index (60_exceptions.md R344) and the cutoffs as the value of that rank (R341 to R343). -/

namespace Sys2Proof.Machine

/-! ## Rounding and the index -/

theorem roundUnits_zero : roundUnits 0 = 0 := rfl

/-- A number of at most 53 significant bits is its own rounding. -/
theorem roundUnits_mul_two_pow {m : Nat} (hm : m < 2 ^ 53) (k : Nat) : roundUnits (m * 2 ^ k) = m * 2 ^ k := by
  obtain rfl | hpos := Nat.eq_zero_or_pos m
  · rw [Nat.zero_mul, roundUnits_zero]
  have hlog : Nat.log2 (m * 2 ^ k) < 53 + k := by
    rw [Nat.log2_lt (Nat.mul_pos hpos (Nat.two_pow_pos k)).ne', Nat.pow_add]
    exact Nat.mul_lt_mul_of_pos_right hm (Nat.two_pow_pos k)
  have hdvd : 2 ^ (Nat.log2 (m * 2 ^ k) + 1 - 53) ∣ m * 2 ^ k :=
    (Nat.pow_dvd_pow 2 (by omega)).trans (Nat.dvd_mul_left _ m)
  have hulp := Nat.two_pow_pos (Nat.log2 (m * 2 ^ k) + 1 - 53)
  unfold roundUnits
  dsimp only
  rw [Nat.mod_eq_zero_of_dvd hdvd, Nat.div_mul_cancel hdvd, if_neg (by omega : ¬(_ ∨ _)), ite_self]

theorem cutoffIndex_lt {n : Nat} (hn : 1 ≤ n) (p : Fraction) : cutoffIndex n p < n := by
  unfold cutoffIndex
  dsimp only
  split_ifs <;> omega

theorem roundUnits_mul_unitOne {m : Nat} (hm : m < 2 ^ 53) : roundUnits (m * unitOne) = m * unitOne := by
  rw [unitOne, roundUnits_mul_two_pow hm]

/-- `p = 0` asks for the value past the last, which the clamp makes the last. -/
theorem cutoffIndex_zero {n : Nat} (hn : n < 2 ^ 53) : cutoffIndex n 0 = n - 1 := by
  have hone : roundUnits unitOne = unitOne := Nat.one_mul unitOne ▸ roundUnits_mul_unitOne (by decide)
  have hpos : 0 < unitOne := pow_pos two_pos _
  unfold cutoffIndex
  rw [show fractionUnits 0 = 0 from rfl, Nat.sub_zero, hone, roundUnits_mul_unitOne hn, Nat.mul_div_cancel n hpos,
    if_pos le_rfl]

theorem fractionUnits_one : fractionUnits 0x3FF0000000000000 = unitOne := by decide +kernel

theorem cutoffIndex_one {n : Nat} (hn : 1 ≤ n) : cutoffIndex n 0x3FF0000000000000 = 0 := by
  unfold cutoffIndex
  rw [fractionUnits_one, Nat.sub_self, roundUnits_zero, Nat.mul_zero, roundUnits_zero, Nat.zero_div,
    if_neg (Nat.not_le.2 hn)]

/-- Settles O53: the clamp bounds the index, and the ends are exact products. -/
theorem cutoffIndexIsInRange : Obligations.cutoff_index_is_in_range := by
  unfold Obligations.cutoff_index_is_in_range
  exact ⟨fun n p hn => cutoffIndex_lt hn p, fun n hn hmax => ⟨cutoffIndex_zero (by omega), cutoffIndex_one hn⟩,
    by decide +kernel, by decide +kernel⟩

/-! ## Sorted and distinct counts -/

/-- The order of counts as numbers. -/
abbrev CountLe (n m : Count) : Prop := n.toNat ≤ m.toNat

theorem insertCount_eq_orderedInsert (n : Count) (l : List Count) : insertCount n l = l.orderedInsert CountLe n := by
  induction l with
  | nil => rfl
  | cons m rest ih => rw [insertCount, ih, List.orderedInsert_cons]

theorem sortCounts_eq_insertionSort (l : List Count) : sortCounts l = l.insertionSort CountLe := by
  induction l with
  | nil => rfl
  | cons n rest ih => rw [sortCounts, ih, insertCount_eq_orderedInsert, List.insertionSort_cons]

theorem sortCounts_perm (l : List Count) : (sortCounts l).Perm l :=
  sortCounts_eq_insertionSort l ▸ List.perm_insertionSort CountLe l

theorem sortCounts_pairwise (l : List Count) : (sortCounts l).Pairwise CountLe := by
  have : Std.Total CountLe := ⟨fun n m => Nat.le_total n.toNat m.toNat⟩
  have : IsTrans Count CountLe := ⟨fun _ _ _ => Nat.le_trans⟩
  rw [sortCounts_eq_insertionSort]
  exact List.pairwise_insertionSort CountLe l

theorem distinctCounts_eq_dedup (l : List Count) : distinctCounts l = l.dedup := by
  induction l with
  | nil => rfl
  | cons n rest ih => simp only [distinctCounts, ih, List.contains_iff_mem, List.mem_dedup, List.dedup_cons]

theorem nodup_distinctCounts (l : List Count) : (distinctCounts l).Nodup :=
  distinctCounts_eq_dedup l ▸ List.nodup_dedup l

theorem mem_distinctCounts (l : List Count) (n : Count) : n ∈ distinctCounts l ↔ n ∈ l := by
  rw [distinctCounts_eq_dedup, List.mem_dedup]

/-! ## Ranks -/

/-- `c` is a value of rank `k` in `l`: it is in the list, at most `k` values are smaller and more than `k` are not larger. -/
def AtRank (l : List Count) (k : Nat) (c : Count) : Prop :=
  c ∈ l ∧ (l.filter fun n => decide (n.toNat < c.toNat)).length ≤ k ∧
    k < (l.filter fun n => decide (n.toNat ≤ c.toNat)).length

/-- The rank does not depend on the order of the list. -/
theorem AtRank.perm {l l' : List Count} {k : Nat} {c : Count} (h : AtRank l k c) (hp : l.Perm l') : AtRank l' k c := by
  obtain ⟨hmem, hlt, hle⟩ := h
  exact ⟨hp.mem_iff.1 hmem, (hp.filter _).length_eq ▸ hlt, (hp.filter _).length_eq ▸ hle⟩

/-- In an ascending list a value has the rank of its place: none from there on is smaller, none up to there is larger. -/
theorem atRank_append {before after : List Count} {c : Count} (h : (before ++ c :: after).Pairwise CountLe) :
    AtRank (before ++ c :: after) before.length c := by
  obtain ⟨-, hafter, hbefore⟩ := List.pairwise_append.1 h
  have hge : ∀ n ∈ c :: after, c.toNat ≤ n.toNat :=
    List.forall_mem_cons.2 ⟨le_rfl, (List.pairwise_cons.1 hafter).1⟩
  have hnone : (c :: after).filter (fun n => decide (n.toNat < c.toNat)) = [] :=
    List.filter_eq_nil_iff.2 fun n hn => by simpa using hge n hn
  have hall : before.filter (fun n => decide (n.toNat ≤ c.toNat)) = before :=
    List.filter_eq_self.2 fun n hn => decide_eq_true (hbefore n hn c List.mem_cons_self)
  refine ⟨List.mem_append_right _ List.mem_cons_self, ?_, ?_⟩
  · rw [List.filter_append, hnone, List.append_nil]
    exact List.length_filter_le _ _
  · rw [List.filter_append, hall, List.length_append]
    exact Nat.lt_add_of_pos_right
      (List.length_pos_of_mem (List.mem_filter.2 ⟨List.mem_cons_self, decide_eq_true le_rfl⟩))

theorem atRank_getElem {l : List Count} (h : l.Pairwise CountLe) {k : Nat} (hk : k < l.length) : AtRank l k l[k] := by
  have hsplit : l.take k ++ l[k] :: l.drop (k + 1) = l := by rw [List.getElem_cons_drop, List.take_append_drop]
  have hrank := atRank_append (hsplit.symm ▸ h)
  rwa [hsplit, List.length_take_of_le hk.le] at hrank

/-- The value picked from a list that is not empty has rank `Index` in it. -/
theorem atRank_pickCutoff {l : List Count} (hl : l ≠ []) (p : Fraction) :
    AtRank l (cutoffIndex l.length p) (pickCutoff (sortCounts l) p) := by
  have hlen : (sortCounts l).length = l.length := (sortCounts_perm l).length_eq
  have hk : cutoffIndex l.length p < (sortCounts l).length :=
    hlen.symm ▸ cutoffIndex_lt (List.length_pos_iff.2 hl) p
  rw [pickCutoff, hlen, List.getD_eq_getElem _ _ hk]
  exact (atRank_getElem (sortCounts_pairwise l) hk).perm (sortCounts_perm l)

/-! ## The cutoffs -/

/-- The list whose rank each cutoff answers: the distinct counts of a range, or all of them. -/
def rankedCounts : CutoffAlgorithm → List Count → List Count
  | .absolute, ns => distinctCounts ns
  | .median, ns => ns

theorem mem_rankedCounts (alg : CutoffAlgorithm) (ns : List Count) (n : Count) : n ∈ rankedCounts alg ns ↔ n ∈ ns := by
  cases alg with
  | absolute => exact mem_distinctCounts ns n
  | median => exact Iff.rfl

theorem cutoff_ok {first last : Addr} {p : Fraction} (hv : validFraction p = true) (hle : first.toNat ≤ last.toNat)
    {s : State} {ns : List Count} (hns : s.statisticsOf (addrRange first last) = .ok ns) (alg : CutoffAlgorithm) :
    s.cutoff alg first last p = .ok (pickCutoff (sortCounts (rankedCounts alg ns)) p) := by
  rw [State.cutoff, checkCutoffArgs, if_pos hv, if_pos hle, hns]
  cases alg <;> rfl

/-- Where every address resolves, the counters of a list are those of its addresses, in order. -/
theorem statisticsOf_of_allReadable {s : State} {l : List Addr} (h : s.allReadable l) :
    ∃ ns, s.statisticsOf l = .ok ns ∧ ns.map some = l.map s.statistics := by
  induction l with
  | nil => exact ⟨[], rfl, rfl⟩
  | cons a rest ih =>
    obtain ⟨ha, hrest⟩ := State.allReadable_cons.1 h
    obtain ⟨ph, hp⟩ := (s.readable_iff a).1 ha
    obtain ⟨ns, hns, hmap⟩ := ih hrest
    refine ⟨s.counts.read ph :: ns, ?_, ?_⟩
    · rw [State.statisticsOf, State.statistics_of_resolve hp, hns]
    · rw [List.map_cons, List.map_cons, State.statistics_of_resolve hp, hmap]

theorem mem_of_map_some_eq {s : State} {l : List Addr} {ns : List Count} (h : ns.map some = l.map s.statistics)
    (n : Count) : n ∈ ns ↔ ∃ a ∈ l, s.statistics a = some n := by
  rw [← List.mem_map_of_injective (Option.some_injective Count), h, List.mem_map]

/-- R340: both ends belong to the range. -/
theorem mem_addrRange {first last : Addr} (h : first.toNat ≤ last.toNat) (a : Addr) :
    a ∈ addrRange first last ↔ first.toNat ≤ a.toNat ∧ a.toNat ≤ last.toNat := by
  have hlast := last.isLt
  refine mem_addressesFrom.trans ⟨?_, fun ⟨hfirst, hle⟩ => ⟨a.toNat - first.toNat, by omega, by bv_omega⟩⟩
  rintro ⟨k, hk, rfl⟩
  rw [BitVec.toNat_add, BitVec.toNat_ofNat]
  omega

/-- Settles O52: the counters of a range are its list of counts, and `pickCutoff` answers the value at rank `Index`. -/
theorem cutoffsPickTheValueAtTheirRank : Obligations.cutoffs_pick_the_value_at_their_rank := by
  unfold Obligations.cutoffs_pick_the_value_at_their_rank
  intro s alg first last p hle hv hr
  obtain ⟨ns, hns, hmap⟩ := statisticsOf_of_allReadable hr
  have hmem (n : Count) : n ∈ rankedCounts alg ns ↔ ∃ a ∈ addrRange first last, s.statistics a = some n :=
    (mem_rankedCounts alg ns n).trans (mem_of_map_some_eq hmap n)
  have hne : rankedCounts alg ns ≠ [] := by
    have hfirst : first ∈ addrRange first last := (mem_addrRange hle first).2 ⟨le_rfl, hle⟩
    obtain ⟨ph, hp⟩ := (s.readable_iff first).1 (hr first hfirst)
    exact List.ne_nil_of_mem ((hmem _).2 ⟨first, hfirst, State.statistics_of_resolve hp⟩)
  refine ⟨mem_addrRange hle, _, rankedCounts alg ns, cutoff_ok hv hle hns alg, hmem, ?_, ?_, atRank_pickCutoff hne p⟩
  · rintro rfl
    exact nodup_distinctCounts ns
  · rintro rfl
    exact hmap

end Sys2Proof.Machine
end
